-- ==== Sys2Proof/Word.lean ====
section
/-!
DEFINITION. The two widths of the core (00_scope.md R5): a byte (A, X, Y, SP, a memory cell) and a word (PC, an address).
-/

namespace Sys2Proof

/-- A byte, 0..255 (00_scope.md R6). -/
abbrev Byte := BitVec 8

/-- A word: a 16-bit address, 0..65535 (00_scope.md R6). -/
abbrev Word := BitVec 16

end Sys2Proof
end

