-- ==== Sys2Proof/Config.lean ====
section
/-!
DEFINITION. The parameters an implementation of the core fixes (00_scope.md R5). The spec asks a model to take them as
arguments; `Machine.State` carries them in a field that no step changes (log 1).
-/

namespace Sys2Proof

/-- `ISA_PROFILE`: which instructions the opcode table holds (00_scope.md R2, R5; 92_eei_decisions.md D2). -/
inductive Profile where
  | core  -- the source's 20 mnemonics, 61 opcodes
  | full  -- all 56 documented mnemonics, 151 opcodes
deriving DecidableEq, Repr

/-- The table of profile `p` holds the entries whose own profile is `q`: FULL holds every entry, CORE only its own
(30_encoding.md R62, R63). -/
def Profile.admits : Profile → Profile → Bool
  | .full, _ => true
  | .core, .core => true
  | .core, .full => false

/-- `PHP_B_BIT`: bit 4 of the byte PHP pushes (44_stack.md R113; 92_eei_decisions.md D5). -/
inductive PhpBBit where
  | forceOne
  | stored
deriving DecidableEq, Repr

/-- `ZP_PTR_WRAP`: where the high byte of a zero-page pointer at 0xFF lies (41_addressing.md R92; 92_eei_decisions.md D6). -/
inductive ZpPtrWrap where
  | linear
  | zeroPage
deriving DecidableEq, Repr

/-- `DECIMAL_MODE`: what ADC and SBC do when D = 1 (46_ext_alu.md R120; 92_eei_decisions.md D14). -/
inductive DecimalMode where
  | refuse
  | binary
deriving DecidableEq, Repr

/-- The four parameters of the step together (10_state.md R32, last sentence). -/
structure Params where
  profile     : Profile
  phpBBit     : PhpBBit
  zpPtrWrap   : ZpPtrWrap
  decimalMode : DecimalMode
deriving DecidableEq, Repr

/-- The default value of every parameter (00_scope.md R5). -/
def Params.default : Params :=
  { profile := .core, phpBBit := .forceOne, zpPtrWrap := .linear, decimalMode := .refuse }

end Sys2Proof
end

