-- ==== Sys2Proof/Machine/Bits.lean ====
section
/-!
DEFINITION. The bit-field, extension and byte-order helpers of the spec's notation (00_scope.md R6, R7).
-/

namespace Sys2Proof.Machine

/-- `lo8(w)`: bits 7..0 of a word (00_scope.md R7). -/
def lo8 (w : Word) : Byte := w.extractLsb' 0 8

/-- `hi8(w)`: bits 15..8 of a word (00_scope.md R7). -/
def hi8 (w : Word) : Byte := w.extractLsb' 8 8

/-- `zext`: a byte as an address or a 16-bit addend (00_scope.md R7). -/
def zext (b : Byte) : Word := b.setWidth 16

/-- `lo | (hi << 8)`: the word whose low byte is `lo` and whose high byte is `hi` (20_memory.md R41, R42). -/
def word (lo hi : Byte) : Word := zext lo ||| zext hi <<< 8

/-- `sext_8(b)`: a byte read as a two's-complement number, in 16 bits (00_scope.md R7; 30_encoding.md R61). -/
def sext8 (b : Byte) : Word := b.signExtend 16

end Sys2Proof.Machine
end

