-- ==== Sys2Proof/Syntax.lean ====
section
/-!
DEFINITION. The instructions of the core: one constructor per row of the opcode table (30_encoding.md R62, R63), named by
its mnemonic and addressing mode, with the operand bytes of its format (R56). `b1` is the second byte of format F2, `w` the
little-endian address of format F3.
-/

namespace Sys2Proof

/-- A row of the opcode table with its operand. -/
inductive Instr where
  -- Loads and stores (42_load_store.md)
  | ldaImm (b1 : Byte) | ldaZp (b1 : Byte) | ldaZpx (b1 : Byte) | ldaAbs (w : Word) | ldaAbx (w : Word)
  | ldaAby (w : Word) | ldaIzx (b1 : Byte) | ldaIzy (b1 : Byte)
  | ldxImm (b1 : Byte) | ldxZp (b1 : Byte) | ldxZpy (b1 : Byte) | ldxAbs (w : Word) | ldxAby (w : Word)
  | ldyImm (b1 : Byte) | ldyZp (b1 : Byte) | ldyZpx (b1 : Byte) | ldyAbs (w : Word) | ldyAbx (w : Word)
  | staZp (b1 : Byte) | staZpx (b1 : Byte) | staAbs (w : Word) | staAbx (w : Word) | staAby (w : Word)
  | staIzx (b1 : Byte) | staIzy (b1 : Byte)
  | stxZp (b1 : Byte) | stxZpy (b1 : Byte) | stxAbs (w : Word)
  | styZp (b1 : Byte) | styZpx (b1 : Byte) | styAbs (w : Word)
  -- Register transfers (43_transfer.md)
  | tax
  | tay
  | tsx
  | txa
  | tya
  | txs
  -- Stack (44_stack.md)
  | pha
  | php
  | pla
  | plp
  -- Shifts and rotates (45_shift_rotate.md)
  | aslAcc | aslZp (b1 : Byte) | aslZpx (b1 : Byte) | aslAbs (w : Word) | aslAbx (w : Word)
  | lsrAcc | lsrZp (b1 : Byte) | lsrZpx (b1 : Byte) | lsrAbs (w : Word) | lsrAbx (w : Word)
  | rolAcc | rolZp (b1 : Byte) | rolZpx (b1 : Byte) | rolAbs (w : Word) | rolAbx (w : Word)
  | rorAcc | rorZp (b1 : Byte) | rorZpx (b1 : Byte) | rorAbs (w : Word) | rorAbx (w : Word)
  -- Add and subtract (46_ext_alu.md)
  | adcImm (b1 : Byte) | adcZp (b1 : Byte) | adcZpx (b1 : Byte) | adcAbs (w : Word) | adcAbx (w : Word)
  | adcAby (w : Word) | adcIzx (b1 : Byte) | adcIzy (b1 : Byte)
  | sbcImm (b1 : Byte) | sbcZp (b1 : Byte) | sbcZpx (b1 : Byte) | sbcAbs (w : Word) | sbcAbx (w : Word)
  | sbcAby (w : Word) | sbcIzx (b1 : Byte) | sbcIzy (b1 : Byte)
  -- Logic (46_ext_alu.md)
  | andImm (b1 : Byte) | andZp (b1 : Byte) | andZpx (b1 : Byte) | andAbs (w : Word) | andAbx (w : Word)
  | andAby (w : Word) | andIzx (b1 : Byte) | andIzy (b1 : Byte)
  | oraImm (b1 : Byte) | oraZp (b1 : Byte) | oraZpx (b1 : Byte) | oraAbs (w : Word) | oraAbx (w : Word)
  | oraAby (w : Word) | oraIzx (b1 : Byte) | oraIzy (b1 : Byte)
  | eorImm (b1 : Byte) | eorZp (b1 : Byte) | eorZpx (b1 : Byte) | eorAbs (w : Word) | eorAbx (w : Word)
  | eorAby (w : Word) | eorIzx (b1 : Byte) | eorIzy (b1 : Byte)
  -- Compare and bit test (46_ext_alu.md)
  | cmpImm (b1 : Byte) | cmpZp (b1 : Byte) | cmpZpx (b1 : Byte) | cmpAbs (w : Word) | cmpAbx (w : Word)
  | cmpAby (w : Word) | cmpIzx (b1 : Byte) | cmpIzy (b1 : Byte)
  | cpxImm (b1 : Byte) | cpxZp (b1 : Byte) | cpxAbs (w : Word)
  | cpyImm (b1 : Byte) | cpyZp (b1 : Byte) | cpyAbs (w : Word)
  | bitZp (b1 : Byte) | bitAbs (w : Word)
  -- Increment and decrement (46_ext_alu.md)
  | incZp (b1 : Byte) | incZpx (b1 : Byte) | incAbs (w : Word) | incAbx (w : Word)
  | decZp (b1 : Byte) | decZpx (b1 : Byte) | decAbs (w : Word) | decAbx (w : Word)
  | inx
  | iny
  | dex
  | dey
  -- Branches (47_ext_control.md)
  | bpl (b1 : Byte)
  | bmi (b1 : Byte)
  | bvc (b1 : Byte)
  | bvs (b1 : Byte)
  | bcc (b1 : Byte)
  | bcs (b1 : Byte)
  | bne (b1 : Byte)
  | beq (b1 : Byte)
  -- Jumps and subroutines (47_ext_control.md)
  | jmpAbs (w : Word) | jmpInd (w : Word)
  | jsr (w : Word)
  | rts
  -- Software break and return (47_ext_control.md); the byte after BRK is skipped (R148)
  | brk (b1 : Byte)
  | rti
  -- Flags and no operation (48_ext_flags_misc.md)
  | clc
  | sec
  | cli
  | sei
  | clv
  | cld
  | sed
  | nop
deriving DecidableEq, Repr

/-- The 56 mnemonics (30_encoding.md R62, R63). -/
inductive Mnemonic where
  | lda | ldx | ldy | sta | stx | sty
  | tax | tay | tsx | txa | tya | txs
  | pha | php | pla | plp
  | asl | lsr | rol | ror
  | adc | sbc
  | and | ora | eor
  | cmp | cpx | cpy | bit
  | inc | dec | inx | iny | dex | dey
  | bpl | bmi | bvc | bvs | bcc | bcs | bne | beq
  | jmp | jsr | rts
  | brk | rti
  | clc | sec | cli | sei | clv | cld | sed | nop
deriving DecidableEq, Repr

/-- The mnemonic of each row (30_encoding.md R62, R63). -/
def Instr.mnemonic : Instr → Mnemonic
  | .ldaImm _ | .ldaZp _ | .ldaZpx _ | .ldaAbs _ | .ldaAbx _ | .ldaAby _ | .ldaIzx _ | .ldaIzy _ => .lda
  | .ldxImm _ | .ldxZp _ | .ldxZpy _ | .ldxAbs _ | .ldxAby _ => .ldx
  | .ldyImm _ | .ldyZp _ | .ldyZpx _ | .ldyAbs _ | .ldyAbx _ => .ldy
  | .staZp _ | .staZpx _ | .staAbs _ | .staAbx _ | .staAby _ | .staIzx _ | .staIzy _ => .sta
  | .stxZp _ | .stxZpy _ | .stxAbs _ => .stx
  | .styZp _ | .styZpx _ | .styAbs _ => .sty
  | .tax => .tax
  | .tay => .tay
  | .tsx => .tsx
  | .txa => .txa
  | .tya => .tya
  | .txs => .txs
  | .pha => .pha
  | .php => .php
  | .pla => .pla
  | .plp => .plp
  | .aslAcc | .aslZp _ | .aslZpx _ | .aslAbs _ | .aslAbx _ => .asl
  | .lsrAcc | .lsrZp _ | .lsrZpx _ | .lsrAbs _ | .lsrAbx _ => .lsr
  | .rolAcc | .rolZp _ | .rolZpx _ | .rolAbs _ | .rolAbx _ => .rol
  | .rorAcc | .rorZp _ | .rorZpx _ | .rorAbs _ | .rorAbx _ => .ror
  | .adcImm _ | .adcZp _ | .adcZpx _ | .adcAbs _ | .adcAbx _ | .adcAby _ | .adcIzx _ | .adcIzy _ => .adc
  | .sbcImm _ | .sbcZp _ | .sbcZpx _ | .sbcAbs _ | .sbcAbx _ | .sbcAby _ | .sbcIzx _ | .sbcIzy _ => .sbc
  | .andImm _ | .andZp _ | .andZpx _ | .andAbs _ | .andAbx _ | .andAby _ | .andIzx _ | .andIzy _ => .and
  | .oraImm _ | .oraZp _ | .oraZpx _ | .oraAbs _ | .oraAbx _ | .oraAby _ | .oraIzx _ | .oraIzy _ => .ora
  | .eorImm _ | .eorZp _ | .eorZpx _ | .eorAbs _ | .eorAbx _ | .eorAby _ | .eorIzx _ | .eorIzy _ => .eor
  | .cmpImm _ | .cmpZp _ | .cmpZpx _ | .cmpAbs _ | .cmpAbx _ | .cmpAby _ | .cmpIzx _ | .cmpIzy _ => .cmp
  | .cpxImm _ | .cpxZp _ | .cpxAbs _ => .cpx
  | .cpyImm _ | .cpyZp _ | .cpyAbs _ => .cpy
  | .bitZp _ | .bitAbs _ => .bit
  | .incZp _ | .incZpx _ | .incAbs _ | .incAbx _ => .inc
  | .decZp _ | .decZpx _ | .decAbs _ | .decAbx _ => .dec
  | .inx => .inx
  | .iny => .iny
  | .dex => .dex
  | .dey => .dey
  | .bpl _ => .bpl
  | .bmi _ => .bmi
  | .bvc _ => .bvc
  | .bvs _ => .bvs
  | .bcc _ => .bcc
  | .bcs _ => .bcs
  | .bne _ => .bne
  | .beq _ => .beq
  | .jmpAbs _ | .jmpInd _ => .jmp
  | .jsr _ => .jsr
  | .rts => .rts
  | .brk _ => .brk
  | .rti => .rti
  | .clc => .clc
  | .sec => .sec
  | .cli => .cli
  | .sei => .sei
  | .clv => .clv
  | .cld => .cld
  | .sed => .sed
  | .nop => .nop

end Sys2Proof
end

