-- ==== Sys2Proof/WellFormed.lean ====
section
/-!
DEFINITION. Which instructions a profile has. The constructors of `Instr` already fix the mode and the operand width of
every row, so the one check left is that the profile's table holds the row (30_encoding.md R62, R63).
-/

namespace Sys2Proof

/-- The profile whose table adds a mnemonic (30_encoding.md R62, R63). -/
def Mnemonic.profile : Mnemonic → Profile
  | .lda | .ldx | .ldy | .sta | .stx | .sty => .core
  | .tax | .tay | .tsx | .txa | .tya | .txs => .core
  | .pha | .php | .pla | .plp => .core
  | .asl | .lsr | .rol | .ror => .core
  | .adc | .sbc => .full
  | .and | .ora | .eor => .full
  | .cmp | .cpx | .cpy | .bit => .full
  | .inc | .dec | .inx | .iny | .dex | .dey => .full
  | .bpl | .bmi | .bvc | .bvs | .bcc | .bcs | .bne | .beq => .full
  | .jmp | .jsr | .rts | .brk | .rti => .full
  | .clc | .sec | .cli | .sei | .clv | .cld | .sed | .nop => .full

/-- The instruction exists in profile `p` (30_encoding.md R62, R63, R65). -/
def Instr.wellFormed (p : Profile) (i : Instr) : Bool := p.admits i.mnemonic.profile

end Sys2Proof
end

