-- ==== Sys2Proof/Decode.lean ====
section
/-!
DEFINITION. The opcode table (30_encoding.md R62, R63) as data, the decoder that looks a whole opcode byte up in it (R57),
and the encoder.
-/

namespace Sys2Proof

/-- The three formats (30_encoding.md R56) with the instruction each makes of its operand bytes. The format fixes the
encoded length: 1, 2 or 3. -/
inductive Form where
  | f1 (i : Instr)
  | f2 (f : Byte → Instr)
  | f3 (f : Word → Instr)

/-- A row of the opcode table: the opcode byte, the profile that adds it, and its format (30_encoding.md R56, R57). -/
structure Row where
  opcode  : Byte
  profile : Profile
  form    : Form

/-- A CORE row of format F1. -/
def core1 (op : Byte) (i : Instr) : Row := { opcode := op, profile := .core, form := .f1 i }

/-- A CORE row of format F2. -/
def core2 (op : Byte) (f : Byte → Instr) : Row := { opcode := op, profile := .core, form := .f2 f }

/-- A CORE row of format F3. -/
def core3 (op : Byte) (f : Word → Instr) : Row := { opcode := op, profile := .core, form := .f3 f }

/-- A FULL row of format F1. -/
def full1 (op : Byte) (i : Instr) : Row := { opcode := op, profile := .full, form := .f1 i }

/-- A FULL row of format F2. -/
def full2 (op : Byte) (f : Byte → Instr) : Row := { opcode := op, profile := .full, form := .f2 f }

/-- A FULL row of format F3. -/
def full3 (op : Byte) (f : Word → Instr) : Row := { opcode := op, profile := .full, form := .f3 f }

/-- The rows of LDA, LDX and LDY (30_encoding.md R62). -/
def loadRows : List Row :=
  [ core2 0xA9 .ldaImm, core2 0xA5 .ldaZp, core2 0xB5 .ldaZpx, core3 0xAD .ldaAbs, core3 0xBD .ldaAbx,
    core3 0xB9 .ldaAby, core2 0xA1 .ldaIzx, core2 0xB1 .ldaIzy,
    core2 0xA2 .ldxImm, core2 0xA6 .ldxZp, core2 0xB6 .ldxZpy, core3 0xAE .ldxAbs, core3 0xBE .ldxAby,
    core2 0xA0 .ldyImm, core2 0xA4 .ldyZp, core2 0xB4 .ldyZpx, core3 0xAC .ldyAbs, core3 0xBC .ldyAbx ]

/-- The rows of STA, STX and STY (30_encoding.md R62). -/
def storeRows : List Row :=
  [ core2 0x85 .staZp, core2 0x95 .staZpx, core3 0x8D .staAbs, core3 0x9D .staAbx, core3 0x99 .staAby,
    core2 0x81 .staIzx, core2 0x91 .staIzy,
    core2 0x86 .stxZp, core2 0x96 .stxZpy, core3 0x8E .stxAbs,
    core2 0x84 .styZp, core2 0x94 .styZpx, core3 0x8C .styAbs ]

/-- The rows of the transfers and the stack instructions (30_encoding.md R62). -/
def impliedRows : List Row :=
  [ core1 0xAA .tax, core1 0xA8 .tay, core1 0xBA .tsx, core1 0x8A .txa, core1 0x98 .tya, core1 0x9A .txs,
    core1 0x48 .pha, core1 0x08 .php, core1 0x68 .pla, core1 0x28 .plp ]

/-- The rows of ASL, LSR, ROL and ROR (30_encoding.md R62). -/
def shiftRows : List Row :=
  [ core1 0x0A .aslAcc, core2 0x06 .aslZp, core2 0x16 .aslZpx, core3 0x0E .aslAbs, core3 0x1E .aslAbx,
    core1 0x4A .lsrAcc, core2 0x46 .lsrZp, core2 0x56 .lsrZpx, core3 0x4E .lsrAbs, core3 0x5E .lsrAbx,
    core1 0x2A .rolAcc, core2 0x26 .rolZp, core2 0x36 .rolZpx, core3 0x2E .rolAbs, core3 0x3E .rolAbx,
    core1 0x6A .rorAcc, core2 0x66 .rorZp, core2 0x76 .rorZpx, core3 0x6E .rorAbs, core3 0x7E .rorAbx ]

/-- The rows of ADC and SBC (30_encoding.md R63). -/
def arithRows : List Row :=
  [ full2 0x69 .adcImm, full2 0x65 .adcZp, full2 0x75 .adcZpx, full3 0x6D .adcAbs, full3 0x7D .adcAbx,
    full3 0x79 .adcAby, full2 0x61 .adcIzx, full2 0x71 .adcIzy,
    full2 0xE9 .sbcImm, full2 0xE5 .sbcZp, full2 0xF5 .sbcZpx, full3 0xED .sbcAbs, full3 0xFD .sbcAbx,
    full3 0xF9 .sbcAby, full2 0xE1 .sbcIzx, full2 0xF1 .sbcIzy ]

/-- The rows of AND, ORA and EOR (30_encoding.md R63). -/
def logicRows : List Row :=
  [ full2 0x29 .andImm, full2 0x25 .andZp, full2 0x35 .andZpx, full3 0x2D .andAbs, full3 0x3D .andAbx,
    full3 0x39 .andAby, full2 0x21 .andIzx, full2 0x31 .andIzy,
    full2 0x09 .oraImm, full2 0x05 .oraZp, full2 0x15 .oraZpx, full3 0x0D .oraAbs, full3 0x1D .oraAbx,
    full3 0x19 .oraAby, full2 0x01 .oraIzx, full2 0x11 .oraIzy,
    full2 0x49 .eorImm, full2 0x45 .eorZp, full2 0x55 .eorZpx, full3 0x4D .eorAbs, full3 0x5D .eorAbx,
    full3 0x59 .eorAby, full2 0x41 .eorIzx, full2 0x51 .eorIzy ]

/-- The rows of CMP, CPX, CPY and BIT (30_encoding.md R63). -/
def compareRows : List Row :=
  [ full2 0xC9 .cmpImm, full2 0xC5 .cmpZp, full2 0xD5 .cmpZpx, full3 0xCD .cmpAbs, full3 0xDD .cmpAbx,
    full3 0xD9 .cmpAby, full2 0xC1 .cmpIzx, full2 0xD1 .cmpIzy,
    full2 0xE0 .cpxImm, full2 0xE4 .cpxZp, full3 0xEC .cpxAbs,
    full2 0xC0 .cpyImm, full2 0xC4 .cpyZp, full3 0xCC .cpyAbs,
    full2 0x24 .bitZp, full3 0x2C .bitAbs ]

/-- The rows of INC, DEC, INX, INY, DEX and DEY (30_encoding.md R63). -/
def countRows : List Row :=
  [ full2 0xE6 .incZp, full2 0xF6 .incZpx, full3 0xEE .incAbs, full3 0xFE .incAbx,
    full2 0xC6 .decZp, full2 0xD6 .decZpx, full3 0xCE .decAbs, full3 0xDE .decAbx,
    full1 0xE8 .inx, full1 0xC8 .iny, full1 0xCA .dex, full1 0x88 .dey ]

/-- The rows of the eight branches (30_encoding.md R63). -/
def branchRows : List Row :=
  [ full2 0x10 .bpl, full2 0x30 .bmi, full2 0x50 .bvc, full2 0x70 .bvs, full2 0x90 .bcc, full2 0xB0 .bcs,
    full2 0xD0 .bne, full2 0xF0 .beq ]

/-- The rows of JMP, JSR, RTS, BRK and RTI; BRK has length 2 (30_encoding.md R63). -/
def controlRows : List Row :=
  [ full3 0x4C .jmpAbs, full3 0x6C .jmpInd,
    full3 0x20 .jsr, full1 0x60 .rts, full2 0x00 .brk, full1 0x40 .rti ]

/-- The rows of the flag instructions and NOP (30_encoding.md R63). -/
def flagRows : List Row :=
  [ full1 0x18 .clc, full1 0x38 .sec, full1 0x58 .cli, full1 0x78 .sei, full1 0xB8 .clv, full1 0xD8 .cld,
    full1 0xF8 .sed, full1 0xEA .nop ]

/-- The fixed opcode table (30_encoding.md R62, R63). -/
def opcodeTable : List Row :=
  loadRows ++ storeRows ++ impliedRows ++ shiftRows ++ arithRows ++ logicRows ++
    compareRows ++ countRows ++ branchRows ++ controlRows ++ flagRows

/-- The entry of an opcode byte in the table of a profile: the whole byte is the index (30_encoding.md R57, R65). -/
def lookupOpcode (p : Profile) (op : Byte) : Option Row :=
  opcodeTable.find? fun r => r.opcode == op && p.admits r.profile

/-- The encoded length of a format, opcode byte included (30_encoding.md R56; 40_dispatch.md R74). -/
def Form.length : Form → Nat
  | .f1 _ => 1
  | .f2 _ => 2
  | .f3 _ => 3

/-- The instruction a format makes of the two bytes after the opcode; a shorter format does not use them
(30_encoding.md R58–R61). -/
def Form.build : Form → Byte → Byte → Instr
  | .f1 i, _, _ => i
  | .f2 f, b1, _ => f b1
  | .f3 f, lo, hi => f (Machine.word lo hi)

/-- Decode the opcode byte and the two bytes after it; none where the profile's table has no entry (30_encoding.md R65). -/
def decodeWindow (p : Profile) (op b1 b2 : Byte) : Option Instr :=
  (lookupOpcode p op).map fun r => r.form.build b1 b2

/-- What a byte string decodes to. -/
inductive Decoded where
  /-- An instruction and the bytes after it. -/
  | instr (i : Instr) (rest : List Byte)
  /-- The opcode byte has no entry in the profile's table (30_encoding.md R65). -/
  | noEntry (opcode : Byte)
  /-- The bytes end before the instruction does. -/
  | truncated
deriving DecidableEq, Repr

/-- Decode the instruction at the head of a byte string (30_encoding.md R56, R57, R65). -/
def decode (p : Profile) : List Byte → Decoded
  | [] => .truncated
  | op :: rest =>
    match lookupOpcode p op with
    | none => .noEntry op
    | some r =>
      match r.form, rest with
      | .f1 i, rest => .instr i rest
      | .f2 f, b1 :: rest => .instr (f b1) rest
      | .f3 f, lo :: hi :: rest => .instr (f (Machine.word lo hi)) rest
      | .f2 _, [] => .truncated
      | .f3 _, [] => .truncated
      | .f3 _, [_] => .truncated

/-- Byte `k` of a number whose byte 0 is its least significant one. -/
def byteOf (w k : Nat) : Byte := BitVec.ofNat 8 (w / 256 ^ k)

/-- The decoder on a word of the opcode table's numbering: byte 0 is the opcode, and every bit from `nbits` on is 0. The
whole table is read, whatever the profile (log 6). -/
def decodeTableWord (nbits w : Nat) : Option Instr :=
  let bits := w % 2 ^ nbits
  decodeWindow .full (byteOf bits 0) (byteOf bits 1) (byteOf bits 2)

/-- The bytes of an instruction of format F3: the address low byte first (30_encoding.md R56, R60). -/
def encode3 (op : Byte) (w : Word) : List Byte := [op, Machine.lo8 w, Machine.hi8 w]

/-- The bytes of an instruction, opcode first (30_encoding.md R56, R62, R63). -/
def encode : Instr → List Byte
  | .ldaImm b1 => [0xA9, b1]
  | .ldaZp b1 => [0xA5, b1]
  | .ldaZpx b1 => [0xB5, b1]
  | .ldaAbs w => encode3 0xAD w
  | .ldaAbx w => encode3 0xBD w
  | .ldaAby w => encode3 0xB9 w
  | .ldaIzx b1 => [0xA1, b1]
  | .ldaIzy b1 => [0xB1, b1]
  | .ldxImm b1 => [0xA2, b1]
  | .ldxZp b1 => [0xA6, b1]
  | .ldxZpy b1 => [0xB6, b1]
  | .ldxAbs w => encode3 0xAE w
  | .ldxAby w => encode3 0xBE w
  | .ldyImm b1 => [0xA0, b1]
  | .ldyZp b1 => [0xA4, b1]
  | .ldyZpx b1 => [0xB4, b1]
  | .ldyAbs w => encode3 0xAC w
  | .ldyAbx w => encode3 0xBC w
  | .staZp b1 => [0x85, b1]
  | .staZpx b1 => [0x95, b1]
  | .staAbs w => encode3 0x8D w
  | .staAbx w => encode3 0x9D w
  | .staAby w => encode3 0x99 w
  | .staIzx b1 => [0x81, b1]
  | .staIzy b1 => [0x91, b1]
  | .stxZp b1 => [0x86, b1]
  | .stxZpy b1 => [0x96, b1]
  | .stxAbs w => encode3 0x8E w
  | .styZp b1 => [0x84, b1]
  | .styZpx b1 => [0x94, b1]
  | .styAbs w => encode3 0x8C w
  | .tax => [0xAA]
  | .tay => [0xA8]
  | .tsx => [0xBA]
  | .txa => [0x8A]
  | .tya => [0x98]
  | .txs => [0x9A]
  | .pha => [0x48]
  | .php => [0x08]
  | .pla => [0x68]
  | .plp => [0x28]
  | .aslAcc => [0x0A]
  | .aslZp b1 => [0x06, b1]
  | .aslZpx b1 => [0x16, b1]
  | .aslAbs w => encode3 0x0E w
  | .aslAbx w => encode3 0x1E w
  | .lsrAcc => [0x4A]
  | .lsrZp b1 => [0x46, b1]
  | .lsrZpx b1 => [0x56, b1]
  | .lsrAbs w => encode3 0x4E w
  | .lsrAbx w => encode3 0x5E w
  | .rolAcc => [0x2A]
  | .rolZp b1 => [0x26, b1]
  | .rolZpx b1 => [0x36, b1]
  | .rolAbs w => encode3 0x2E w
  | .rolAbx w => encode3 0x3E w
  | .rorAcc => [0x6A]
  | .rorZp b1 => [0x66, b1]
  | .rorZpx b1 => [0x76, b1]
  | .rorAbs w => encode3 0x6E w
  | .rorAbx w => encode3 0x7E w
  | .adcImm b1 => [0x69, b1]
  | .adcZp b1 => [0x65, b1]
  | .adcZpx b1 => [0x75, b1]
  | .adcAbs w => encode3 0x6D w
  | .adcAbx w => encode3 0x7D w
  | .adcAby w => encode3 0x79 w
  | .adcIzx b1 => [0x61, b1]
  | .adcIzy b1 => [0x71, b1]
  | .sbcImm b1 => [0xE9, b1]
  | .sbcZp b1 => [0xE5, b1]
  | .sbcZpx b1 => [0xF5, b1]
  | .sbcAbs w => encode3 0xED w
  | .sbcAbx w => encode3 0xFD w
  | .sbcAby w => encode3 0xF9 w
  | .sbcIzx b1 => [0xE1, b1]
  | .sbcIzy b1 => [0xF1, b1]
  | .andImm b1 => [0x29, b1]
  | .andZp b1 => [0x25, b1]
  | .andZpx b1 => [0x35, b1]
  | .andAbs w => encode3 0x2D w
  | .andAbx w => encode3 0x3D w
  | .andAby w => encode3 0x39 w
  | .andIzx b1 => [0x21, b1]
  | .andIzy b1 => [0x31, b1]
  | .oraImm b1 => [0x09, b1]
  | .oraZp b1 => [0x05, b1]
  | .oraZpx b1 => [0x15, b1]
  | .oraAbs w => encode3 0x0D w
  | .oraAbx w => encode3 0x1D w
  | .oraAby w => encode3 0x19 w
  | .oraIzx b1 => [0x01, b1]
  | .oraIzy b1 => [0x11, b1]
  | .eorImm b1 => [0x49, b1]
  | .eorZp b1 => [0x45, b1]
  | .eorZpx b1 => [0x55, b1]
  | .eorAbs w => encode3 0x4D w
  | .eorAbx w => encode3 0x5D w
  | .eorAby w => encode3 0x59 w
  | .eorIzx b1 => [0x41, b1]
  | .eorIzy b1 => [0x51, b1]
  | .cmpImm b1 => [0xC9, b1]
  | .cmpZp b1 => [0xC5, b1]
  | .cmpZpx b1 => [0xD5, b1]
  | .cmpAbs w => encode3 0xCD w
  | .cmpAbx w => encode3 0xDD w
  | .cmpAby w => encode3 0xD9 w
  | .cmpIzx b1 => [0xC1, b1]
  | .cmpIzy b1 => [0xD1, b1]
  | .cpxImm b1 => [0xE0, b1]
  | .cpxZp b1 => [0xE4, b1]
  | .cpxAbs w => encode3 0xEC w
  | .cpyImm b1 => [0xC0, b1]
  | .cpyZp b1 => [0xC4, b1]
  | .cpyAbs w => encode3 0xCC w
  | .bitZp b1 => [0x24, b1]
  | .bitAbs w => encode3 0x2C w
  | .incZp b1 => [0xE6, b1]
  | .incZpx b1 => [0xF6, b1]
  | .incAbs w => encode3 0xEE w
  | .incAbx w => encode3 0xFE w
  | .decZp b1 => [0xC6, b1]
  | .decZpx b1 => [0xD6, b1]
  | .decAbs w => encode3 0xCE w
  | .decAbx w => encode3 0xDE w
  | .inx => [0xE8]
  | .iny => [0xC8]
  | .dex => [0xCA]
  | .dey => [0x88]
  | .bpl b1 => [0x10, b1]
  | .bmi b1 => [0x30, b1]
  | .bvc b1 => [0x50, b1]
  | .bvs b1 => [0x70, b1]
  | .bcc b1 => [0x90, b1]
  | .bcs b1 => [0xB0, b1]
  | .bne b1 => [0xD0, b1]
  | .beq b1 => [0xF0, b1]
  | .jmpAbs w => encode3 0x4C w
  | .jmpInd w => encode3 0x6C w
  | .jsr w => encode3 0x20 w
  | .rts => [0x60]
  | .brk b1 => [0x00, b1]
  | .rti => [0x40]
  | .clc => [0x18]
  | .sec => [0x38]
  | .cli => [0x58]
  | .sei => [0x78]
  | .clv => [0xB8]
  | .cld => [0xD8]
  | .sed => [0xF8]
  | .nop => [0xEA]

/-- The encoded length of an instruction, opcode byte included (30_encoding.md R56). -/
def Instr.length (i : Instr) : Nat := (encode i).length

end Sys2Proof
end

