-- ==== Sys2Proof/Machine/Flags.lean ====
section
/-!
DEFINITION. The flag register (10_state.md R21) and every flag computation of the spec.
-/

namespace Sys2Proof.Machine

/-- The seven stored flags (10_state.md R21); bit 5 of the packed image is not stored. -/
structure Flags where
  n : Bool  -- Negative
  v : Bool  -- Overflow
  b : Bool  -- Break
  d : Bool  -- Decimal
  i : Bool  -- Interrupt-disable
  z : Bool  -- Zero
  c : Bool  -- Carry
deriving DecidableEq, Repr

/-- All seven flags 0. -/
def Flags.clear : Flags :=
  { n := false, v := false, b := false, d := false, i := false, z := false, c := false }

/-- `update_nz(v)`: Z = (v == 0), N = bit 7 of v, no other flag (10_state.md R24). -/
def Flags.updateNz (f : Flags) (v : Byte) : Flags := { f with z := v == 0, n := v.getLsbD 7 }

/-- The flag `b` as bit `k` of a byte (10_state.md R22). -/
def flagBit (b : Bool) (k : Nat) : Byte := if b then 1 <<< k else 0

/-- `pack()`: N V 1 B D I Z C from bit 7 to bit 0 (10_state.md R25). -/
def Flags.pack (f : Flags) : Byte :=
  flagBit f.n 7 ||| flagBit f.v 6 ||| 0x20 ||| flagBit f.b 4 ||| flagBit f.d 3 ||| flagBit f.i 2 ||| flagBit f.z 1
    ||| flagBit f.c 0

/-- `unpack(b)`: the seven flags from bits 7 6 4 3 2 1 0; bit 5 is ignored (10_state.md R26). -/
def Flags.unpack (b : Byte) : Flags :=
  { n := b.getLsbD 7, v := b.getLsbD 6, b := b.getLsbD 4, d := b.getLsbD 3, i := b.getLsbD 2, z := b.getLsbD 1,
    c := b.getLsbD 0 }

/-- The carry as a number, 0 or 1. -/
def carryIn (c : Bool) : Nat := if c then 1 else 0

/-- The exact sum `A + m + C` of ADC, 0..511 (46_ext_alu.md R121). -/
def exactSum (a m : Byte) (c : Bool) : Nat := a.toNat + m.toNat + carryIn c

/-- The carry out of an exact sum: `sum > 0xFF` (46_ext_alu.md R121, R122). -/
def carryOut (sum : Nat) : Bool := decide (sum > 0xFF)

/-- Signed overflow of `a + m` with result `r`: `((a ^ r) & (m ^ r) & 0x80) != 0` (46_ext_alu.md R121, R122). -/
def overflow (a m r : Byte) : Bool := ((a ^^^ r) &&& (m ^^^ r) &&& 0x80) != 0

/-- The flags of an addition of `m` to `a` with carry in: V, C, then N and Z of the result (46_ext_alu.md R121). -/
def Flags.afterAdd (f : Flags) (a m : Byte) : Flags :=
  let sum := exactSum a m f.c
  let r : Byte := BitVec.ofNat 8 sum
  Flags.updateNz { f with v := overflow a m r, c := carryOut sum } r

/-- The flags of a comparison of register `reg` with `m`: C = (reg >= m) unsigned, N and Z of the difference
(46_ext_alu.md R126). -/
def Flags.afterCompare (f : Flags) (reg m : Byte) : Flags :=
  Flags.updateNz { f with c := decide (m.toNat ≤ reg.toNat) } (reg - m)

/-- The flags of BIT: Z of `a & m`, N and V copied from bits 7 and 6 of `m` (46_ext_alu.md R129). -/
def Flags.afterBit (f : Flags) (a m : Byte) : Flags :=
  { f with z := a &&& m == 0, n := m.getLsbD 7, v := m.getLsbD 6 }

end Sys2Proof.Machine
end

