-- ==== Sys2Proof/Machine/Memory.lean ====
section
/-!
DEFINITION. The 64 KiB byte memory (20_memory.md) as a list of (address, byte) cells in one canonical form: addresses
strictly rising, each below 0x10000, and no cell that holds what an unlisted address reads as.
-/

namespace Sys2Proof.Machine

/-- The memory array as the cells that differ from `unlisted`. -/
abbrev Memory := List Host.Cell

/-- `MEM_SIZE`: 65536 bytes (00_scope.md R5; 20_memory.md R38). -/
def memSize : Nat := 65536

/-- What an address that no cell lists reads as. DESIGN CHOICE (log 4), unsafe: the spec leaves the launch contents to
the loader's image (70_reset_and_hazards.md R189). -/
def unlisted : Byte := 0

/-- The cells of one address holding `v`: none when `v` is what an unlisted address reads as. -/
def cell (a : Nat) (v : Byte) : Memory := if v = unlisted then [] else [(a, v)]

/-- The byte of cell `a` in a list of rising addresses. -/
def lookup : Memory → Nat → Byte
  | [], _ => unlisted
  | (b, w) :: rest, a => if a < b then unlisted else if a = b then w else lookup rest a

/-- Cell `a` set to `v`, in the canonical form. -/
def put : Memory → Nat → Byte → Memory
  | [], a, v => cell a v
  | (b, w) :: rest, a, v =>
    if a < b then cell a v ++ (b, w) :: rest
    else if a = b then cell a v ++ rest
    else (b, w) :: put rest a v

/-- `MemRead(a, 1)`: the byte at address `a` modulo 65536 (20_memory.md R39). -/
def Memory.read (m : Memory) (a : Nat) : Byte := lookup m (a % memSize)

/-- `MemWrite(a, 1, v)`: the byte at address `a` modulo 65536 becomes `v` (20_memory.md R39). -/
def Memory.write (m : Memory) (a : Nat) (v : Byte) : Memory := put m (a % memSize) v

/-- `MemRead16(a)`: low byte at `a`, high byte at `w16(a + 1)` (20_memory.md R41). -/
def Memory.read16 (m : Memory) (a : Word) : Word := word (m.read a.toNat) (m.read (a + 1).toNat)

/-- The canonical form, from address `lo` on. -/
def wfFrom : Nat → Memory → Bool
  | _, [] => true
  | lo, (a, v) :: rest => decide (lo ≤ a) && decide (a < memSize) && decide (v ≠ unlisted) && wfFrom (a + 1) rest

/-- The memory is in its canonical form. -/
def Memory.wf (m : Memory) : Bool := wfFrom 0 m

/-- The cells of a list of bytes laid out from address `a` on; bytes past the last address are dropped. -/
def imageFrom : Nat → List Byte → Memory
  | _, [] => []
  | a, v :: rest => if a < memSize then cell a v ++ imageFrom (a + 1) rest else []

/-- The memory that a loader's image makes: byte k of the image at address k (60_exceptions.md R180, load; log 11). -/
def Memory.ofImage (image : List Byte) : Memory := imageFrom 0 image

end Sys2Proof.Machine
end

