-- ==== Sys2Proof/Machine/Launch.lean ====
section
/-!
DEFINITION. What a launch takes from outside the core (10_state.md R31; 70_reset_and_hazards.md R189), the values that
`State.reset` names for it, and the vectors of the address map (20_memory.md R47).
-/

namespace Sys2Proof.Machine

/-- The inputs of a launch: the OPEN parameters `INIT_A` … `INIT_FLAGS`, the loader's image `MEM_INIT` and the
configuration (10_state.md R31; 70_reset_and_hazards.md R189). -/
structure Launch where
  a      : Byte
  x      : Byte
  y      : Byte
  sp     : Byte
  flags  : Flags
  image  : List Byte
  params : Params
deriving DecidableEq, Repr

/-- The reset vector's address (20_memory.md R47; 70_reset_and_hazards.md R190). -/
def resetVector : Word := 0xFFFC

/-- The BRK vector's address, profile FULL (20_memory.md R47; 47_ext_control.md R148). -/
def breakVector : Word := 0xFFFE

/-- The launch that `State.reset` names. The spec leaves every register and flag OPEN: DESIGN CHOICE zero (log 3), unsafe.
No image is loaded (log 4), and every parameter has its default of 00_scope.md R5 (log 2). -/
def resetLaunch : Launch :=
  { a := 0, x := 0, y := 0, sp := 0, flags := Flags.clear, image := [], params := Params.default }

end Sys2Proof.Machine
end

