-- ==== Sys2Proof/Machine/State.lean ====
section
/-!
DEFINITION. The whole state of the core (10_state.md R32), the reasons a step stops (60_exceptions.md R171), and the state
after launch and after reset (70_reset_and_hazards.md R189, R190).
-/

namespace Sys2Proof.Machine

/-- The state of the core (10_state.md R15, R21, R29, R32), and with it the configuration of its step, which no step
changes (log 1). -/
structure State where
  a      : Byte    -- accumulator (R16)
  x      : Byte    -- index register X (R17)
  y      : Byte    -- index register Y (R18)
  sp     : Byte    -- stack pointer, the offset from 0x0100 (R19)
  pc     : Word    -- program counter (R20)
  flags  : Flags   -- the flag register (R21)
  mem    : Memory  -- the 65536 bytes of memory (R29)
  params : Params  -- the configuration (R5), no architectural state
deriving DecidableEq, Repr

/-- Why a step faults. -/
inductive Fault where
  /-- Raised by the dispatcher when the opcode byte at `pc` has no entry in the active profile's table (40_dispatch.md R70;
  60_exceptions.md R170). It is the hardware's own fault: safe. -/
  | decodeFault (pc : Word) (opcode : Byte)
deriving DecidableEq, Repr

/-- Why a step has no meaning. -/
inductive Refusal where
  /-- Raised by `exec` for an instruction that has no meaning yet; safe. No arm of this model uses it. -/
  | notModelled (mnemonic : String)
  /-- Raised by ADC and SBC when D = 1 and `DECIMAL_MODE` is `REFUSE`, with the instruction's address and opcode
  (46_ext_alu.md R120; 60_exceptions.md R171, R172). The spec itself refuses here: safe. -/
  | unmodelledDecimal (pc : Word) (opcode : Byte)
deriving DecidableEq, Repr

/-- The outcome of one instruction or one step. -/
abbrev Result := Host.Outcome State Fault Refusal

/-- `init`: PC becomes the word at the reset vector and nothing else changes (70_reset_and_hazards.md R190). -/
def State.init (s : State) : State := { s with pc := s.mem.read16 resetVector }

/-- The launch state: memory from the image, registers and flags from the OPEN parameters, then `init`
(70_reset_and_hazards.md R189). -/
def State.launch (l : Launch) : State :=
  State.init
    { a := l.a, x := l.x, y := l.y, sp := l.sp, pc := 0, flags := l.flags, mem := Memory.ofImage l.image,
      params := l.params }

/-- The machine right after reset: the launch state of the launch this model names (log 3, log 4). -/
def State.reset : State := State.launch resetLaunch

end Sys2Proof.Machine
end

