-- ==== Sys2Proof/Machine/Ops.lean ====
section
/-!
DEFINITION. The named operations over registers, flags and memory, the stack primitives, entering and leaving a software
break, and the end of a step (40_dispatch.md R67 step 5).
-/

namespace Sys2Proof.Machine

/-- `A <- v` (00_scope.md R8). -/
def State.setA (s : State) (v : Byte) : State := { s with a := v }

/-- `X <- v` (00_scope.md R8). -/
def State.setX (s : State) (v : Byte) : State := { s with x := v }

/-- `Y <- v` (00_scope.md R8). -/
def State.setY (s : State) (v : Byte) : State := { s with y := v }

/-- `SP <- v` (00_scope.md R8). -/
def State.setSp (s : State) (v : Byte) : State := { s with sp := v }

/-- `PC <- w` (00_scope.md R8). -/
def State.setPc (s : State) (w : Word) : State := { s with pc := w }

/-- The flag register written whole. -/
def State.setFlags (s : State) (f : Flags) : State := { s with flags := f }

/-- `MemRead(a, 1)` (20_memory.md R39). -/
def State.read (s : State) (a : Word) : Byte := s.mem.read a.toNat

/-- `MemRead16(a)` (20_memory.md R41). -/
def State.read16 (s : State) (a : Word) : Word := s.mem.read16 a

/-- `MemWrite(a, 1, v)` (20_memory.md R39). -/
def State.write (s : State) (a : Word) (v : Byte) : State := { s with mem := s.mem.write a.toNat v }

/-- `update_nz(v)` on the machine's flags (10_state.md R24). -/
def State.updateNz (s : State) (v : Byte) : State := s.setFlags (s.flags.updateNz v)

/-- The stack address that SP designates: `0x0100 + SP` (10_state.md R19). -/
def stackAddr (sp : Byte) : Word := 0x0100 + zext sp

/-- `push(v)`: store at `0x0100 + SP`, then decrement SP modulo 256 (44_stack.md R109, R111). -/
def State.push (s : State) (v : Byte) : State := (s.write (stackAddr s.sp) v).setSp (s.sp - 1)

/-- `push(hi8(w)); push(lo8(w))`: a return address, high byte first (20_memory.md R42; 47_ext_control.md R146, R148). -/
def State.pushWord (s : State) (w : Word) : State := (s.push (hi8 w)).push (lo8 w)

/-- `pull()`: increment SP modulo 256, then load from `0x0100 + SP` (44_stack.md R110, R111). -/
def State.pull (s : State) : Byte × State :=
  let t := s.setSp (s.sp + 1)
  (t.read (stackAddr t.sp), t)

/-- `let lo = pull(); let hi = pull()`: a return address (47_ext_control.md R147, R149). -/
def State.pullWord (s : State) : Word × State :=
  let lo := s.pull
  let hi := lo.2.pull
  (word lo.1 hi.1, hi.2)

/-- Entering a software break, the one trap entry of the instruction set: the return address and the packed flags with
B = 1 go to the stack, I is set, and PC comes from the BRK vector, read after the pushes (47_ext_control.md R148;
20_memory.md R50). -/
def State.enterBreak (s : State) : State :=
  let t := (s.pushWord (s.pc + 2)).push (s.flags.pack ||| 0x10)
  let t := t.setFlags { t.flags with i := true }
  t.setPc (t.read16 breakVector)

/-- Returning from a break: the flags from the stack, then PC, with no addition (47_ext_control.md R149). -/
def State.leaveBreak (s : State) : State :=
  let p := s.pull
  let ret := (p.2.setFlags (Flags.unpack p.1)).pullWord
  ret.2.setPc ret.1

/-- What a handler returns (40_dispatch.md R76): a new state with the PC-override mark clear or set, or the refusal of the
decimal gate. -/
inductive Handled where
  /-- The handler did not write PC: the dispatcher advances it (R73). -/
  | advance (s : State)
  /-- The handler wrote PC: the dispatcher leaves it (R72). -/
  | jumped (s : State)
  /-- ADC or SBC with D = 1 under `DECIMAL_MODE = REFUSE` (R76; 46_ext_alu.md R120). -/
  | unmodelledDecimal
deriving DecidableEq, Repr

/-- `pc <- target`: the write itself sets the override mark, whatever the target (40_dispatch.md R72). -/
def State.jump (s : State) (target : Word) : Handled := .jumped (s.setPc target)

/-- The end of a step begun in state `s` by a table entry with this opcode and length: PC advances by the length unless the
handler wrote it, and a refusal carries the opcode's address and byte (40_dispatch.md R67 step 5, R72, R73;
60_exceptions.md R171). -/
def finish (opcode : Byte) (len : Word) (s : State) : Handled → Result
  | .advance t => .next (t.setPc (s.pc + len))
  | .jumped t => .next t
  | .unmodelledDecimal => .refused (.unmodelledDecimal s.pc opcode)

end Sys2Proof.Machine
end

