-- ==== Sys2Proof/Machine/Operands.lean ====
section
/-!
DEFINITION. The addressing-mode resolver (41_addressing.md): one function per mode, over the operand bytes of the decoded
instruction and the state before the handler, and the two location primitives (R95). Implied mode has no operand (R82);
the accumulator mode is the location `regA` (R83); an immediate operand is the byte itself (R84; log 8).
-/

namespace Sys2Proof.Machine

/-- Zero Page: `Mem(b1)` (41_addressing.md R85). -/
def zeroPage (b1 : Byte) : Word := zext b1

/-- Zero Page,X: `Mem((b1 + X) mod 256)` (41_addressing.md R86). -/
def zeroPageX (b1 : Byte) (s : State) : Word := zext (b1 + s.x)

/-- Zero Page,Y: `Mem((b1 + Y) mod 256)` (41_addressing.md R87). -/
def zeroPageY (b1 : Byte) (s : State) : Word := zext (b1 + s.y)

/-- Absolute: `Mem(word at PC+1)` (41_addressing.md R88). -/
def absolute (w : Word) : Word := w

/-- Absolute,X: `Mem(w16(word + X))` (41_addressing.md R89). -/
def absoluteX (w : Word) (s : State) : Word := w + zext s.x

/-- Absolute,Y: `Mem(w16(word + Y))` (41_addressing.md R90). -/
def absoluteY (w : Word) (s : State) : Word := w + zext s.y

/-- Indirect: the word at the pointer, its high byte taken from the pointer's own page (41_addressing.md R91). -/
def indirect (ptr : Word) (s : State) : Word :=
  word (s.read ptr) (s.read ((ptr &&& 0xFF00) ||| ((ptr + 1) &&& 0x00FF)))

/-- `zhi(z)`: where the high byte of the zero-page pointer `z` lies (41_addressing.md R92). -/
def pointerHigh (wrap : ZpPtrWrap) (z : Byte) : Word :=
  match wrap with
  | .linear => zext z + 1
  | .zeroPage => zext (z + 1)

/-- `ZPRead16(z)` (41_addressing.md R92). -/
def zeroPagePointer (z : Byte) (s : State) : Word :=
  word (s.read (zext z)) (s.read (pointerHigh s.params.zpPtrWrap z))

/-- Indexed Indirect (X): `Mem(ZPRead16((b1 + X) mod 256))` (41_addressing.md R92). -/
def indexedIndirectX (b1 : Byte) (s : State) : Word := zeroPagePointer (b1 + s.x) s

/-- Indirect Indexed (Y): `Mem(w16(ZPRead16(b1) + Y))` (41_addressing.md R93). -/
def indirectIndexedY (b1 : Byte) (s : State) : Word := zeroPagePointer b1 s + zext s.y

/-- Relative: `Mem(w16(PC + 2 + sext_8(b1)))`, PC being the opcode's address (41_addressing.md R94). -/
def relative (b1 : Byte) (s : State) : Word := s.pc + 2 + sext8 b1

/-- A location an instruction may both read and write (41_addressing.md R81, R95). -/
inductive Loc where
  | regA
  | mem (a : Word)
deriving DecidableEq, Repr

/-- `read(loc)` (41_addressing.md R95). -/
def State.readLoc (s : State) : Loc → Byte
  | .regA => s.a
  | .mem a => s.read a

/-- `write(loc, v)` (41_addressing.md R95). -/
def State.writeLoc (s : State) (loc : Loc) (v : Byte) : State :=
  match loc with
  | .regA => s.setA v
  | .mem a => s.write a v

end Sys2Proof.Machine
end

