-- ==== Sys2Proof/Machine/Alu.lean ====
section
/-!
DEFINITION. Arithmetic, logic, compare and increment instructions (46_ext_alu.md).
-/

namespace Sys2Proof.Machine

/-- `decimal_gate()`: with D = 1 under `DECIMAL_MODE = REFUSE` the instruction is refused, otherwise it goes on (R120). -/
def decimalGate (s : State) (r : Handled) : Handled :=
  if s.flags.d && s.params.decimalMode == .refuse then .unmodelledDecimal else r

/-- `A <- A + m + C` with its flags (R121; with the one's complement of the operand for SBC, R122). -/
def State.addToA (s : State) (m : Byte) : State :=
  (s.setA (BitVec.ofNat 8 (exactSum s.a m s.flags.c))).setFlags (s.flags.afterAdd s.a m)

/-- A logic result: A := r, N and Z from r (R123–R125). -/
def State.setANz (s : State) (r : Byte) : State := (s.setA r).updateNz r

/-- A byte written to memory, N and Z from it (R130, R131). -/
def State.writeNz (s : State) (ea : Word) (r : Byte) : State := (s.write ea r).updateNz r

/-- ADC: A := A + m + C, N V Z C (R121). -/
def handleAdc (m : Byte) (s : State) : Handled := decimalGate s (.advance (s.addToA m))

/-- ADC #b1 (R121, R84). -/
def execAdcImm (b1 : Byte) (s : State) : Result := finish 0x69 2 s (handleAdc b1 s)

/-- ADC b1 (R121, R85). -/
def execAdcZp (b1 : Byte) (s : State) : Result := finish 0x65 2 s (handleAdc (s.read (zeroPage b1)) s)

/-- ADC b1,X (R121, R86). -/
def execAdcZpx (b1 : Byte) (s : State) : Result := finish 0x75 2 s (handleAdc (s.read (zeroPageX b1 s)) s)

/-- ADC w (R121, R88). -/
def execAdcAbs (w : Word) (s : State) : Result := finish 0x6D 3 s (handleAdc (s.read (absolute w)) s)

/-- ADC w,X (R121, R89). -/
def execAdcAbx (w : Word) (s : State) : Result := finish 0x7D 3 s (handleAdc (s.read (absoluteX w s)) s)

/-- ADC w,Y (R121, R90). -/
def execAdcAby (w : Word) (s : State) : Result := finish 0x79 3 s (handleAdc (s.read (absoluteY w s)) s)

/-- ADC (b1,X) (R121, R92). -/
def execAdcIzx (b1 : Byte) (s : State) : Result := finish 0x61 2 s (handleAdc (s.read (indexedIndirectX b1 s)) s)

/-- ADC (b1),Y (R121, R93). -/
def execAdcIzy (b1 : Byte) (s : State) : Result := finish 0x71 2 s (handleAdc (s.read (indirectIndexedY b1 s)) s)

/-- SBC: A := A - m - (1 - C), as an addition of the one's complement, N V Z C (R122). -/
def handleSbc (m : Byte) (s : State) : Handled := decimalGate s (.advance (s.addToA (m ^^^ 0xFF)))

/-- SBC #b1 (R122, R84). -/
def execSbcImm (b1 : Byte) (s : State) : Result := finish 0xE9 2 s (handleSbc b1 s)

/-- SBC b1 (R122, R85). -/
def execSbcZp (b1 : Byte) (s : State) : Result := finish 0xE5 2 s (handleSbc (s.read (zeroPage b1)) s)

/-- SBC b1,X (R122, R86). -/
def execSbcZpx (b1 : Byte) (s : State) : Result := finish 0xF5 2 s (handleSbc (s.read (zeroPageX b1 s)) s)

/-- SBC w (R122, R88). -/
def execSbcAbs (w : Word) (s : State) : Result := finish 0xED 3 s (handleSbc (s.read (absolute w)) s)

/-- SBC w,X (R122, R89). -/
def execSbcAbx (w : Word) (s : State) : Result := finish 0xFD 3 s (handleSbc (s.read (absoluteX w s)) s)

/-- SBC w,Y (R122, R90). -/
def execSbcAby (w : Word) (s : State) : Result := finish 0xF9 3 s (handleSbc (s.read (absoluteY w s)) s)

/-- SBC (b1,X) (R122, R92). -/
def execSbcIzx (b1 : Byte) (s : State) : Result := finish 0xE1 2 s (handleSbc (s.read (indexedIndirectX b1 s)) s)

/-- SBC (b1),Y (R122, R93). -/
def execSbcIzy (b1 : Byte) (s : State) : Result := finish 0xF1 2 s (handleSbc (s.read (indirectIndexedY b1 s)) s)

/-- AND (R123). -/
def handleAnd (m : Byte) (s : State) : Handled := .advance (s.setANz (s.a &&& m))

/-- AND #b1 (R123, R84). -/
def execAndImm (b1 : Byte) (s : State) : Result := finish 0x29 2 s (handleAnd b1 s)

/-- AND b1 (R123, R85). -/
def execAndZp (b1 : Byte) (s : State) : Result := finish 0x25 2 s (handleAnd (s.read (zeroPage b1)) s)

/-- AND b1,X (R123, R86). -/
def execAndZpx (b1 : Byte) (s : State) : Result := finish 0x35 2 s (handleAnd (s.read (zeroPageX b1 s)) s)

/-- AND w (R123, R88). -/
def execAndAbs (w : Word) (s : State) : Result := finish 0x2D 3 s (handleAnd (s.read (absolute w)) s)

/-- AND w,X (R123, R89). -/
def execAndAbx (w : Word) (s : State) : Result := finish 0x3D 3 s (handleAnd (s.read (absoluteX w s)) s)

/-- AND w,Y (R123, R90). -/
def execAndAby (w : Word) (s : State) : Result := finish 0x39 3 s (handleAnd (s.read (absoluteY w s)) s)

/-- AND (b1,X) (R123, R92). -/
def execAndIzx (b1 : Byte) (s : State) : Result := finish 0x21 2 s (handleAnd (s.read (indexedIndirectX b1 s)) s)

/-- AND (b1),Y (R123, R93). -/
def execAndIzy (b1 : Byte) (s : State) : Result := finish 0x31 2 s (handleAnd (s.read (indirectIndexedY b1 s)) s)

/-- ORA (R124). -/
def handleOra (m : Byte) (s : State) : Handled := .advance (s.setANz (s.a ||| m))

/-- ORA #b1 (R124, R84). -/
def execOraImm (b1 : Byte) (s : State) : Result := finish 0x09 2 s (handleOra b1 s)

/-- ORA b1 (R124, R85). -/
def execOraZp (b1 : Byte) (s : State) : Result := finish 0x05 2 s (handleOra (s.read (zeroPage b1)) s)

/-- ORA b1,X (R124, R86). -/
def execOraZpx (b1 : Byte) (s : State) : Result := finish 0x15 2 s (handleOra (s.read (zeroPageX b1 s)) s)

/-- ORA w (R124, R88). -/
def execOraAbs (w : Word) (s : State) : Result := finish 0x0D 3 s (handleOra (s.read (absolute w)) s)

/-- ORA w,X (R124, R89). -/
def execOraAbx (w : Word) (s : State) : Result := finish 0x1D 3 s (handleOra (s.read (absoluteX w s)) s)

/-- ORA w,Y (R124, R90). -/
def execOraAby (w : Word) (s : State) : Result := finish 0x19 3 s (handleOra (s.read (absoluteY w s)) s)

/-- ORA (b1,X) (R124, R92). -/
def execOraIzx (b1 : Byte) (s : State) : Result := finish 0x01 2 s (handleOra (s.read (indexedIndirectX b1 s)) s)

/-- ORA (b1),Y (R124, R93). -/
def execOraIzy (b1 : Byte) (s : State) : Result := finish 0x11 2 s (handleOra (s.read (indirectIndexedY b1 s)) s)

/-- EOR (R125). -/
def handleEor (m : Byte) (s : State) : Handled := .advance (s.setANz (s.a ^^^ m))

/-- EOR #b1 (R125, R84). -/
def execEorImm (b1 : Byte) (s : State) : Result := finish 0x49 2 s (handleEor b1 s)

/-- EOR b1 (R125, R85). -/
def execEorZp (b1 : Byte) (s : State) : Result := finish 0x45 2 s (handleEor (s.read (zeroPage b1)) s)

/-- EOR b1,X (R125, R86). -/
def execEorZpx (b1 : Byte) (s : State) : Result := finish 0x55 2 s (handleEor (s.read (zeroPageX b1 s)) s)

/-- EOR w (R125, R88). -/
def execEorAbs (w : Word) (s : State) : Result := finish 0x4D 3 s (handleEor (s.read (absolute w)) s)

/-- EOR w,X (R125, R89). -/
def execEorAbx (w : Word) (s : State) : Result := finish 0x5D 3 s (handleEor (s.read (absoluteX w s)) s)

/-- EOR w,Y (R125, R90). -/
def execEorAby (w : Word) (s : State) : Result := finish 0x59 3 s (handleEor (s.read (absoluteY w s)) s)

/-- EOR (b1,X) (R125, R92). -/
def execEorIzx (b1 : Byte) (s : State) : Result := finish 0x41 2 s (handleEor (s.read (indexedIndirectX b1 s)) s)

/-- EOR (b1),Y (R125, R93). -/
def execEorIzy (b1 : Byte) (s : State) : Result := finish 0x51 2 s (handleEor (s.read (indirectIndexedY b1 s)) s)

/-- CMP: C N Z of A compared with m (R126). -/
def handleCmp (m : Byte) (s : State) : Handled := .advance (s.setFlags (s.flags.afterCompare s.a m))

/-- CMP #b1 (R126, R84). -/
def execCmpImm (b1 : Byte) (s : State) : Result := finish 0xC9 2 s (handleCmp b1 s)

/-- CMP b1 (R126, R85). -/
def execCmpZp (b1 : Byte) (s : State) : Result := finish 0xC5 2 s (handleCmp (s.read (zeroPage b1)) s)

/-- CMP b1,X (R126, R86). -/
def execCmpZpx (b1 : Byte) (s : State) : Result := finish 0xD5 2 s (handleCmp (s.read (zeroPageX b1 s)) s)

/-- CMP w (R126, R88). -/
def execCmpAbs (w : Word) (s : State) : Result := finish 0xCD 3 s (handleCmp (s.read (absolute w)) s)

/-- CMP w,X (R126, R89). -/
def execCmpAbx (w : Word) (s : State) : Result := finish 0xDD 3 s (handleCmp (s.read (absoluteX w s)) s)

/-- CMP w,Y (R126, R90). -/
def execCmpAby (w : Word) (s : State) : Result := finish 0xD9 3 s (handleCmp (s.read (absoluteY w s)) s)

/-- CMP (b1,X) (R126, R92). -/
def execCmpIzx (b1 : Byte) (s : State) : Result := finish 0xC1 2 s (handleCmp (s.read (indexedIndirectX b1 s)) s)

/-- CMP (b1),Y (R126, R93). -/
def execCmpIzy (b1 : Byte) (s : State) : Result := finish 0xD1 2 s (handleCmp (s.read (indirectIndexedY b1 s)) s)

/-- CPX: C N Z of X compared with m (R127). -/
def handleCpx (m : Byte) (s : State) : Handled := .advance (s.setFlags (s.flags.afterCompare s.x m))

/-- CPX #b1 (R127, R84). -/
def execCpxImm (b1 : Byte) (s : State) : Result := finish 0xE0 2 s (handleCpx b1 s)

/-- CPX b1 (R127, R85). -/
def execCpxZp (b1 : Byte) (s : State) : Result := finish 0xE4 2 s (handleCpx (s.read (zeroPage b1)) s)

/-- CPX w (R127, R88). -/
def execCpxAbs (w : Word) (s : State) : Result := finish 0xEC 3 s (handleCpx (s.read (absolute w)) s)

/-- CPY: C N Z of Y compared with m (R128). -/
def handleCpy (m : Byte) (s : State) : Handled := .advance (s.setFlags (s.flags.afterCompare s.y m))

/-- CPY #b1 (R128, R84). -/
def execCpyImm (b1 : Byte) (s : State) : Result := finish 0xC0 2 s (handleCpy b1 s)

/-- CPY b1 (R128, R85). -/
def execCpyZp (b1 : Byte) (s : State) : Result := finish 0xC4 2 s (handleCpy (s.read (zeroPage b1)) s)

/-- CPY w (R128, R88). -/
def execCpyAbs (w : Word) (s : State) : Result := finish 0xCC 3 s (handleCpy (s.read (absolute w)) s)

/-- BIT: Z from A & m, N and V from bits 7 and 6 of m (R129). -/
def handleBit (m : Byte) (s : State) : Handled := .advance (s.setFlags (s.flags.afterBit s.a m))

/-- BIT b1 (R129, R85). -/
def execBitZp (b1 : Byte) (s : State) : Result := finish 0x24 2 s (handleBit (s.read (zeroPage b1)) s)

/-- BIT w (R129, R88). -/
def execBitAbs (w : Word) (s : State) : Result := finish 0x2C 3 s (handleBit (s.read (absolute w)) s)

/-- INC: the byte at `ea` plus 1, N Z (R130). -/
def handleInc (ea : Word) (s : State) : Handled := .advance (s.writeNz ea (s.read ea + 1))

/-- INC b1 (R130, R85). -/
def execIncZp (b1 : Byte) (s : State) : Result := finish 0xE6 2 s (handleInc (zeroPage b1) s)

/-- INC b1,X (R130, R86). -/
def execIncZpx (b1 : Byte) (s : State) : Result := finish 0xF6 2 s (handleInc (zeroPageX b1 s) s)

/-- INC w (R130, R88). -/
def execIncAbs (w : Word) (s : State) : Result := finish 0xEE 3 s (handleInc (absolute w) s)

/-- INC w,X (R130, R89). -/
def execIncAbx (w : Word) (s : State) : Result := finish 0xFE 3 s (handleInc (absoluteX w s) s)

/-- DEC: the byte at `ea` minus 1, N Z (R131). -/
def handleDec (ea : Word) (s : State) : Handled := .advance (s.writeNz ea (s.read ea - 1))

/-- DEC b1 (R131, R85). -/
def execDecZp (b1 : Byte) (s : State) : Result := finish 0xC6 2 s (handleDec (zeroPage b1) s)

/-- DEC b1,X (R131, R86). -/
def execDecZpx (b1 : Byte) (s : State) : Result := finish 0xD6 2 s (handleDec (zeroPageX b1 s) s)

/-- DEC w (R131, R88). -/
def execDecAbs (w : Word) (s : State) : Result := finish 0xCE 3 s (handleDec (absolute w) s)

/-- DEC w,X (R131, R89). -/
def execDecAbx (w : Word) (s : State) : Result := finish 0xDE 3 s (handleDec (absoluteX w s) s)

/-- INX: X := X + 1, N Z (R132). -/
def handleInx (s : State) : Handled := .advance ((s.setX (s.x + 1)).updateNz (s.x + 1))

/-- INX (R132, R82). -/
def execInx (s : State) : Result := finish 0xE8 1 s (handleInx s)

/-- INY: Y := Y + 1, N Z (R133). -/
def handleIny (s : State) : Handled := .advance ((s.setY (s.y + 1)).updateNz (s.y + 1))

/-- INY (R133, R82). -/
def execIny (s : State) : Result := finish 0xC8 1 s (handleIny s)

/-- DEX: X := X - 1, N Z (R134). -/
def handleDex (s : State) : Handled := .advance ((s.setX (s.x - 1)).updateNz (s.x - 1))

/-- DEX (R134, R82). -/
def execDex (s : State) : Result := finish 0xCA 1 s (handleDex s)

/-- DEY: Y := Y - 1, N Z (R135). -/
def handleDey (s : State) : Handled := .advance ((s.setY (s.y - 1)).updateNz (s.y - 1))

/-- DEY (R135, R82). -/
def execDey (s : State) : Result := finish 0x88 1 s (handleDey s)

end Sys2Proof.Machine
end

