-- ==== Sys2Proof/Machine/Control.lean ====
section
/-!
DEFINITION. Branches, jumps, subroutines, the software break and its return (47_ext_control.md).
-/

namespace Sys2Proof.Machine

/-- `branch(cond, Mem(t))`: taken, PC := t with the override mark; not taken, no PC write (R136). -/
def branch (cond : Bool) (target : Word) (s : State) : Handled := if cond then s.jump target else .advance s

/-- BPL: branch if N = 0 (R137). -/
def handleBpl (target : Word) (s : State) : Handled := branch (!s.flags.n) target s

/-- BPL rel (R137, R94). -/
def execBpl (b1 : Byte) (s : State) : Result := finish 0x10 2 s (handleBpl (relative b1 s) s)

/-- BMI: branch if N = 1 (R138). -/
def handleBmi (target : Word) (s : State) : Handled := branch (s.flags.n) target s

/-- BMI rel (R138, R94). -/
def execBmi (b1 : Byte) (s : State) : Result := finish 0x30 2 s (handleBmi (relative b1 s) s)

/-- BVC: branch if V = 0 (R139). -/
def handleBvc (target : Word) (s : State) : Handled := branch (!s.flags.v) target s

/-- BVC rel (R139, R94). -/
def execBvc (b1 : Byte) (s : State) : Result := finish 0x50 2 s (handleBvc (relative b1 s) s)

/-- BVS: branch if V = 1 (R140). -/
def handleBvs (target : Word) (s : State) : Handled := branch (s.flags.v) target s

/-- BVS rel (R140, R94). -/
def execBvs (b1 : Byte) (s : State) : Result := finish 0x70 2 s (handleBvs (relative b1 s) s)

/-- BCC: branch if C = 0 (R141). -/
def handleBcc (target : Word) (s : State) : Handled := branch (!s.flags.c) target s

/-- BCC rel (R141, R94). -/
def execBcc (b1 : Byte) (s : State) : Result := finish 0x90 2 s (handleBcc (relative b1 s) s)

/-- BCS: branch if C = 1 (R142). -/
def handleBcs (target : Word) (s : State) : Handled := branch (s.flags.c) target s

/-- BCS rel (R142, R94). -/
def execBcs (b1 : Byte) (s : State) : Result := finish 0xB0 2 s (handleBcs (relative b1 s) s)

/-- BNE: branch if Z = 0 (R143). -/
def handleBne (target : Word) (s : State) : Handled := branch (!s.flags.z) target s

/-- BNE rel (R143, R94). -/
def execBne (b1 : Byte) (s : State) : Result := finish 0xD0 2 s (handleBne (relative b1 s) s)

/-- BEQ: branch if Z = 1 (R144). -/
def handleBeq (target : Word) (s : State) : Handled := branch (s.flags.z) target s

/-- BEQ rel (R144, R94). -/
def execBeq (b1 : Byte) (s : State) : Result := finish 0xF0 2 s (handleBeq (relative b1 s) s)

/-- JMP: PC := the resolved address (R145). -/
def handleJmp (target : Word) (s : State) : Handled := s.jump target

/-- JMP w (R145, R88). -/
def execJmpAbs (w : Word) (s : State) : Result := finish 0x4C 3 s (handleJmp (absolute w) s)

/-- JMP (w) (R145, R91). -/
def execJmpInd (w : Word) (s : State) : Result := finish 0x6C 3 s (handleJmp (indirect w s) s)

/-- JSR: push the address of its own last byte, high byte first, then PC := target (R146). -/
def handleJsr (target : Word) (s : State) : Handled := (s.pushWord (s.pc + 2)).jump target

/-- JSR w (R146, R88). -/
def execJsr (w : Word) (s : State) : Result := finish 0x20 3 s (handleJsr (absolute w) s)

/-- RTS: PC := the pulled address + 1 (R147). -/
def handleRts (s : State) : Handled := s.pullWord.2.jump (s.pullWord.1 + 1)

/-- RTS (R147, R82). -/
def execRts (s : State) : Result := finish 0x60 1 s (handleRts s)

/-- BRK: the software break (R148). -/
def handleBrk (s : State) : Handled := .jumped s.enterBreak

/-- BRK (the byte b1 is skipped) (R148, R82). -/
def execBrk (_ : Byte) (s : State) : Result := finish 0x00 2 s (handleBrk s)

/-- RTI: return from a break (R149). -/
def handleRti (s : State) : Handled := .jumped s.leaveBreak

/-- RTI (R149, R82). -/
def execRti (s : State) : Result := finish 0x40 1 s (handleRti s)

end Sys2Proof.Machine
end

