-- ==== Sys2Proof/Machine/FlagOps.lean ====
section
/-!
DEFINITION. Flag and no-operation instructions (48_ext_flags_misc.md).
-/

namespace Sys2Proof.Machine

/-- CLC: C := 0 (R151). -/
def handleClc (s : State) : Handled := .advance (s.setFlags { s.flags with c := false })

/-- CLC (R151, R82). -/
def execClc (s : State) : Result := finish 0x18 1 s (handleClc s)

/-- SEC: C := 1 (R152). -/
def handleSec (s : State) : Handled := .advance (s.setFlags { s.flags with c := true })

/-- SEC (R152, R82). -/
def execSec (s : State) : Result := finish 0x38 1 s (handleSec s)

/-- CLI: I := 0 (R153). -/
def handleCli (s : State) : Handled := .advance (s.setFlags { s.flags with i := false })

/-- CLI (R153, R82). -/
def execCli (s : State) : Result := finish 0x58 1 s (handleCli s)

/-- SEI: I := 1 (R154). -/
def handleSei (s : State) : Handled := .advance (s.setFlags { s.flags with i := true })

/-- SEI (R154, R82). -/
def execSei (s : State) : Result := finish 0x78 1 s (handleSei s)

/-- CLV: V := 0 (R155). -/
def handleClv (s : State) : Handled := .advance (s.setFlags { s.flags with v := false })

/-- CLV (R155, R82). -/
def execClv (s : State) : Result := finish 0xB8 1 s (handleClv s)

/-- CLD: D := 0 (R156). -/
def handleCld (s : State) : Handled := .advance (s.setFlags { s.flags with d := false })

/-- CLD (R156, R82). -/
def execCld (s : State) : Result := finish 0xD8 1 s (handleCld s)

/-- SED: D := 1 (R157). -/
def handleSed (s : State) : Handled := .advance (s.setFlags { s.flags with d := true })

/-- SED (R157, R82). -/
def execSed (s : State) : Result := finish 0xF8 1 s (handleSed s)

/-- NOP: nothing but the PC's advance (R158). -/
def handleNop (s : State) : Handled := .advance s

/-- NOP (R158, R82). -/
def execNop (s : State) : Result := finish 0xEA 1 s (handleNop s)

end Sys2Proof.Machine
end

