-- ==== Sys2Proof/Machine/LoadStore.lean ====
section
/-!
DEFINITION. Loads and stores (42_load_store.md). A handler takes the byte read at the resolved location, or the resolved
address; each row resolves its mode on the state before the handler (40_dispatch.md R69).
-/

namespace Sys2Proof.Machine

/-- LDA: A := v, N and Z from v (R97). -/
def handleLda (v : Byte) (s : State) : Handled := .advance ((s.setA v).updateNz v)

/-- LDA #b1 (R97, R84). -/
def execLdaImm (b1 : Byte) (s : State) : Result := finish 0xA9 2 s (handleLda b1 s)

/-- LDA b1 (R97, R85). -/
def execLdaZp (b1 : Byte) (s : State) : Result := finish 0xA5 2 s (handleLda (s.read (zeroPage b1)) s)

/-- LDA b1,X (R97, R86). -/
def execLdaZpx (b1 : Byte) (s : State) : Result := finish 0xB5 2 s (handleLda (s.read (zeroPageX b1 s)) s)

/-- LDA w (R97, R88). -/
def execLdaAbs (w : Word) (s : State) : Result := finish 0xAD 3 s (handleLda (s.read (absolute w)) s)

/-- LDA w,X (R97, R89). -/
def execLdaAbx (w : Word) (s : State) : Result := finish 0xBD 3 s (handleLda (s.read (absoluteX w s)) s)

/-- LDA w,Y (R97, R90). -/
def execLdaAby (w : Word) (s : State) : Result := finish 0xB9 3 s (handleLda (s.read (absoluteY w s)) s)

/-- LDA (b1,X) (R97, R92). -/
def execLdaIzx (b1 : Byte) (s : State) : Result := finish 0xA1 2 s (handleLda (s.read (indexedIndirectX b1 s)) s)

/-- LDA (b1),Y (R97, R93). -/
def execLdaIzy (b1 : Byte) (s : State) : Result := finish 0xB1 2 s (handleLda (s.read (indirectIndexedY b1 s)) s)

/-- LDX: X := v, N and Z from v (R98). -/
def handleLdx (v : Byte) (s : State) : Handled := .advance ((s.setX v).updateNz v)

/-- LDX #b1 (R98, R84). -/
def execLdxImm (b1 : Byte) (s : State) : Result := finish 0xA2 2 s (handleLdx b1 s)

/-- LDX b1 (R98, R85). -/
def execLdxZp (b1 : Byte) (s : State) : Result := finish 0xA6 2 s (handleLdx (s.read (zeroPage b1)) s)

/-- LDX b1,Y (R98, R87). -/
def execLdxZpy (b1 : Byte) (s : State) : Result := finish 0xB6 2 s (handleLdx (s.read (zeroPageY b1 s)) s)

/-- LDX w (R98, R88). -/
def execLdxAbs (w : Word) (s : State) : Result := finish 0xAE 3 s (handleLdx (s.read (absolute w)) s)

/-- LDX w,Y (R98, R90). -/
def execLdxAby (w : Word) (s : State) : Result := finish 0xBE 3 s (handleLdx (s.read (absoluteY w s)) s)

/-- LDY: Y := v, N and Z from v (R99). -/
def handleLdy (v : Byte) (s : State) : Handled := .advance ((s.setY v).updateNz v)

/-- LDY #b1 (R99, R84). -/
def execLdyImm (b1 : Byte) (s : State) : Result := finish 0xA0 2 s (handleLdy b1 s)

/-- LDY b1 (R99, R85). -/
def execLdyZp (b1 : Byte) (s : State) : Result := finish 0xA4 2 s (handleLdy (s.read (zeroPage b1)) s)

/-- LDY b1,X (R99, R86). -/
def execLdyZpx (b1 : Byte) (s : State) : Result := finish 0xB4 2 s (handleLdy (s.read (zeroPageX b1 s)) s)

/-- LDY w (R99, R88). -/
def execLdyAbs (w : Word) (s : State) : Result := finish 0xAC 3 s (handleLdy (s.read (absolute w)) s)

/-- LDY w,X (R99, R89). -/
def execLdyAbx (w : Word) (s : State) : Result := finish 0xBC 3 s (handleLdy (s.read (absoluteX w s)) s)

/-- STA: the byte at `ea` := A, no flag (R100). -/
def handleSta (ea : Word) (s : State) : Handled := .advance (s.write ea s.a)

/-- STA b1 (R100, R85). -/
def execStaZp (b1 : Byte) (s : State) : Result := finish 0x85 2 s (handleSta (zeroPage b1) s)

/-- STA b1,X (R100, R86). -/
def execStaZpx (b1 : Byte) (s : State) : Result := finish 0x95 2 s (handleSta (zeroPageX b1 s) s)

/-- STA w (R100, R88). -/
def execStaAbs (w : Word) (s : State) : Result := finish 0x8D 3 s (handleSta (absolute w) s)

/-- STA w,X (R100, R89). -/
def execStaAbx (w : Word) (s : State) : Result := finish 0x9D 3 s (handleSta (absoluteX w s) s)

/-- STA w,Y (R100, R90). -/
def execStaAby (w : Word) (s : State) : Result := finish 0x99 3 s (handleSta (absoluteY w s) s)

/-- STA (b1,X) (R100, R92). -/
def execStaIzx (b1 : Byte) (s : State) : Result := finish 0x81 2 s (handleSta (indexedIndirectX b1 s) s)

/-- STA (b1),Y (R100, R93). -/
def execStaIzy (b1 : Byte) (s : State) : Result := finish 0x91 2 s (handleSta (indirectIndexedY b1 s) s)

/-- STX: the byte at `ea` := X, no flag (R101). -/
def handleStx (ea : Word) (s : State) : Handled := .advance (s.write ea s.x)

/-- STX b1 (R101, R85). -/
def execStxZp (b1 : Byte) (s : State) : Result := finish 0x86 2 s (handleStx (zeroPage b1) s)

/-- STX b1,Y (R101, R87). -/
def execStxZpy (b1 : Byte) (s : State) : Result := finish 0x96 2 s (handleStx (zeroPageY b1 s) s)

/-- STX w (R101, R88). -/
def execStxAbs (w : Word) (s : State) : Result := finish 0x8E 3 s (handleStx (absolute w) s)

/-- STY: the byte at `ea` := Y, no flag (R102). -/
def handleSty (ea : Word) (s : State) : Handled := .advance (s.write ea s.y)

/-- STY b1 (R102, R85). -/
def execStyZp (b1 : Byte) (s : State) : Result := finish 0x84 2 s (handleSty (zeroPage b1) s)

/-- STY b1,X (R102, R86). -/
def execStyZpx (b1 : Byte) (s : State) : Result := finish 0x94 2 s (handleSty (zeroPageX b1 s) s)

/-- STY w (R102, R88). -/
def execStyAbs (w : Word) (s : State) : Result := finish 0x8C 3 s (handleSty (absolute w) s)

end Sys2Proof.Machine
end

