-- ==== Sys2Proof/Machine/Shift.lean ====
section
/-!
DEFINITION. Shifts and rotates (45_shift_rotate.md), on A or on a memory byte.
-/

namespace Sys2Proof.Machine

/-- The common form of ASL, LSR, ROL and ROR: from the operand and the incoming carry, `op` gives the result and the new
carry; the result goes back to the same location and sets N and Z (R116–R119). -/
def shiftLoc (op : Byte → Bool → Byte × Bool) (loc : Loc) (s : State) : Handled :=
  let r := op (s.readLoc loc) s.flags.c
  .advance (((s.setFlags { s.flags with c := r.2 }).writeLoc loc r.1).updateNz r.1)

/-- ASL of a byte: bit 7 to C, 0 into bit 0 (R116). -/
def aslByte (v : Byte) (_ : Bool) : Byte × Bool := (v <<< 1, v.getLsbD 7)

/-- LSR of a byte: bit 0 to C, 0 into bit 7 (R117). -/
def lsrByte (v : Byte) (_ : Bool) : Byte × Bool := (v >>> 1, v.getLsbD 0)

/-- ROL of a byte: bit 7 to C, the incoming carry into bit 0 (R118). -/
def rolByte (v : Byte) (c : Bool) : Byte × Bool := (v <<< 1 ||| (if c then 0x01 else 0x00), v.getLsbD 7)

/-- ROR of a byte: bit 0 to C, the incoming carry into bit 7 (R119). -/
def rorByte (v : Byte) (c : Bool) : Byte × Bool := (v >>> 1 ||| (if c then 0x80 else 0x00), v.getLsbD 0)

/-- ASL (R116). -/
def handleAsl (loc : Loc) (s : State) : Handled := shiftLoc aslByte loc s

/-- ASL A (R116, R83). -/
def execAslAcc (s : State) : Result := finish 0x0A 1 s (handleAsl .regA s)

/-- ASL b1 (R116, R85). -/
def execAslZp (b1 : Byte) (s : State) : Result := finish 0x06 2 s (handleAsl (.mem (zeroPage b1)) s)

/-- ASL b1,X (R116, R86). -/
def execAslZpx (b1 : Byte) (s : State) : Result := finish 0x16 2 s (handleAsl (.mem (zeroPageX b1 s)) s)

/-- ASL w (R116, R88). -/
def execAslAbs (w : Word) (s : State) : Result := finish 0x0E 3 s (handleAsl (.mem (absolute w)) s)

/-- ASL w,X (R116, R89). -/
def execAslAbx (w : Word) (s : State) : Result := finish 0x1E 3 s (handleAsl (.mem (absoluteX w s)) s)

/-- LSR (R117). -/
def handleLsr (loc : Loc) (s : State) : Handled := shiftLoc lsrByte loc s

/-- LSR A (R117, R83). -/
def execLsrAcc (s : State) : Result := finish 0x4A 1 s (handleLsr .regA s)

/-- LSR b1 (R117, R85). -/
def execLsrZp (b1 : Byte) (s : State) : Result := finish 0x46 2 s (handleLsr (.mem (zeroPage b1)) s)

/-- LSR b1,X (R117, R86). -/
def execLsrZpx (b1 : Byte) (s : State) : Result := finish 0x56 2 s (handleLsr (.mem (zeroPageX b1 s)) s)

/-- LSR w (R117, R88). -/
def execLsrAbs (w : Word) (s : State) : Result := finish 0x4E 3 s (handleLsr (.mem (absolute w)) s)

/-- LSR w,X (R117, R89). -/
def execLsrAbx (w : Word) (s : State) : Result := finish 0x5E 3 s (handleLsr (.mem (absoluteX w s)) s)

/-- ROL (R118). -/
def handleRol (loc : Loc) (s : State) : Handled := shiftLoc rolByte loc s

/-- ROL A (R118, R83). -/
def execRolAcc (s : State) : Result := finish 0x2A 1 s (handleRol .regA s)

/-- ROL b1 (R118, R85). -/
def execRolZp (b1 : Byte) (s : State) : Result := finish 0x26 2 s (handleRol (.mem (zeroPage b1)) s)

/-- ROL b1,X (R118, R86). -/
def execRolZpx (b1 : Byte) (s : State) : Result := finish 0x36 2 s (handleRol (.mem (zeroPageX b1 s)) s)

/-- ROL w (R118, R88). -/
def execRolAbs (w : Word) (s : State) : Result := finish 0x2E 3 s (handleRol (.mem (absolute w)) s)

/-- ROL w,X (R118, R89). -/
def execRolAbx (w : Word) (s : State) : Result := finish 0x3E 3 s (handleRol (.mem (absoluteX w s)) s)

/-- ROR (R119). -/
def handleRor (loc : Loc) (s : State) : Handled := shiftLoc rorByte loc s

/-- ROR A (R119, R83). -/
def execRorAcc (s : State) : Result := finish 0x6A 1 s (handleRor .regA s)

/-- ROR b1 (R119, R85). -/
def execRorZp (b1 : Byte) (s : State) : Result := finish 0x66 2 s (handleRor (.mem (zeroPage b1)) s)

/-- ROR b1,X (R119, R86). -/
def execRorZpx (b1 : Byte) (s : State) : Result := finish 0x76 2 s (handleRor (.mem (zeroPageX b1 s)) s)

/-- ROR w (R119, R88). -/
def execRorAbs (w : Word) (s : State) : Result := finish 0x6E 3 s (handleRor (.mem (absolute w)) s)

/-- ROR w,X (R119, R89). -/
def execRorAbx (w : Word) (s : State) : Result := finish 0x7E 3 s (handleRor (.mem (absoluteX w s)) s)

end Sys2Proof.Machine
end

