-- ==== Sys2Proof/Machine/Stack.lean ====
section
/-!
DEFINITION. Stack instructions (44_stack.md).
-/

namespace Sys2Proof.Machine

/-- The byte PHP pushes: the packed flags, with bit 4 set when `PHP_B_BIT` is `FORCE_ONE` (R113). -/
def phpByte (s : State) : Byte :=
  match s.params.phpBBit with
  | .forceOne => s.flags.pack ||| 0x10
  | .stored => s.flags.pack

/-- PHA: push A (R112). -/
def handlePha (s : State) : Handled := .advance (s.push s.a)

/-- PHA (R112, R82). -/
def execPha (s : State) : Result := finish 0x48 1 s (handlePha s)

/-- PHP: push the packed flags; no stored flag changes (R113). -/
def handlePhp (s : State) : Handled := .advance (s.push (phpByte s))

/-- PHP (R113, R82). -/
def execPhp (s : State) : Result := finish 0x08 1 s (handlePhp s)

/-- PLA: A := the pulled byte, N and Z from it (R114). -/
def handlePla (s : State) : Handled := .advance ((s.pull.2.setA s.pull.1).updateNz s.pull.1)

/-- PLA (R114, R82). -/
def execPla (s : State) : Result := finish 0x68 1 s (handlePla s)

/-- PLP: all seven flags from the pulled byte, never by update_nz (R115; 90_conflicts.md C1). -/
def handlePlp (s : State) : Handled := .advance (s.pull.2.setFlags (Flags.unpack s.pull.1))

/-- PLP (R115, R82). -/
def execPlp (s : State) : Result := finish 0x28 1 s (handlePlp s)

end Sys2Proof.Machine
end

