-- ==== Sys2Proof/Machine/Transfer.lean ====
section
/-!
DEFINITION. Register transfers (43_transfer.md).
-/

namespace Sys2Proof.Machine

/-- TAX: X := A, N and Z from the new X (R103). -/
def handleTax (s : State) : Handled := .advance ((s.setX s.a).updateNz s.a)

/-- TAX (R103, R82). -/
def execTax (s : State) : Result := finish 0xAA 1 s (handleTax s)

/-- TAY: Y := A, N and Z from the new Y (R104). -/
def handleTay (s : State) : Handled := .advance ((s.setY s.a).updateNz s.a)

/-- TAY (R104, R82). -/
def execTay (s : State) : Result := finish 0xA8 1 s (handleTay s)

/-- TSX: X := SP, N and Z from the new X (R105). -/
def handleTsx (s : State) : Handled := .advance ((s.setX s.sp).updateNz s.sp)

/-- TSX (R105, R82). -/
def execTsx (s : State) : Result := finish 0xBA 1 s (handleTsx s)

/-- TXA: A := X, N and Z from the new A (R106). -/
def handleTxa (s : State) : Handled := .advance ((s.setA s.x).updateNz s.x)

/-- TXA (R106, R82). -/
def execTxa (s : State) : Result := finish 0x8A 1 s (handleTxa s)

/-- TYA: A := Y, N and Z from the new A (R107). -/
def handleTya (s : State) : Handled := .advance ((s.setA s.y).updateNz s.y)

/-- TYA (R107, R82). -/
def execTya (s : State) : Result := finish 0x98 1 s (handleTya s)

/-- TXS: SP := X, no flag (R108; 90_conflicts.md C1). -/
def handleTxs (s : State) : Handled := .advance (s.setSp s.x)

/-- TXS (R108, R82). -/
def execTxs (s : State) : Result := finish 0x9A 1 s (handleTxs s)

end Sys2Proof.Machine
end

