-- ==== Sys2Proof/Machine/Fetch.lean ====
section
/-!
DEFINITION. Fetching an instruction's bytes at PC and decoding them (40_dispatch.md R67 steps 1 and 2, R68), and placing a
word where the next step fetches.
-/

namespace Sys2Proof.Machine

/-- The byte at PC + k, the address modulo 65536 (40_dispatch.md R68; 30_encoding.md R56). -/
def fetchByte (s : State) (k : Word) : Byte := s.read (s.pc + k)

/-- The instruction at PC in the active profile's table, none where its opcode has no entry. Reading memory changes nothing,
so both bytes after the opcode are read whatever the length (20_memory.md R46; log 8). -/
def fetchInstr (s : State) : Option Instr :=
  decodeWindow s.params.profile (fetchByte s 0) (fetchByte s 1) (fetchByte s 2)

/-- The configuration whose table holds the opcode: profile FULL where only its table does, else unchanged (log 5). -/
def paramsFor (p : Params) (op : Byte) : Params :=
  if (lookupOpcode p.profile op).isNone && (lookupOpcode .full op).isSome then { p with profile := .full } else p

/-- The word `w` of `nbits` bits, byte 0 the opcode and every higher bit 0, stored at PC, PC + 1 and PC + 2 (log 5). -/
def placeWord (s : State) (nbits w : Nat) : State :=
  let bits := w % 2 ^ nbits
  let t := ((s.write s.pc (byteOf bits 0)).write (s.pc + 1) (byteOf bits 1)).write (s.pc + 2) (byteOf bits 2)
  { t with params := paramsFor s.params (byteOf bits 0) }

end Sys2Proof.Machine
end

