-- ==== Sys2Proof/Machine/Step.lean ====
section
/-!
DEFINITION. One step of the core (40_dispatch.md R67): fetch, decode in the active profile's table, and run the
instruction; and the state in which a given word is what the next step fetches.
-/

namespace Sys2Proof.Machine

/-- One step: the opcode at PC and its operand bytes are decoded in the active profile's table; a byte with no entry is a
decode fault, and any other instruction runs (40_dispatch.md R67, R70). -/
def step (s : State) : Host.Outcome State Fault Refusal :=
  match fetchInstr s with
  | none => .fault (.decodeFault s.pc (fetchByte s 0))
  | some i => exec i s

/-- `s` with the instruction word `w` (of `nbits` bits, the bits above them 0) stored at PC, and launched with profile FULL
where only that profile's table holds the opcode (log 5). -/
def State.withFetchWord (s : State) (nbits w : Nat) : State := placeWord s nbits w

end Sys2Proof.Machine
end

