-- ==== Sys2Proof/Machine/Interface.lean ====
section
/-!
DEFINITION. What the host does to the core between steps (60_exceptions.md R180): load, inspect, run and halt. `init` is
`State.init`, and `step` is the step itself.
-/

namespace Sys2Proof.Machine

/-- load: memory := image (60_exceptions.md R180; log 11). -/
def State.load (s : State) (image : List Byte) : State := { s with mem := Memory.ofImage image }

/-- What the read-only accessors show (60_exceptions.md R179). -/
structure Inspection where
  a     : Byte
  x     : Byte
  y     : Byte
  sp    : Byte
  pc    : Word
  flags : Flags
deriving DecidableEq, Repr

/-- inspect: the registers and flags; nothing changes (60_exceptions.md R179, R180). -/
def State.inspect (s : State) : Inspection :=
  { a := s.a, x := s.x, y := s.y, sp := s.sp, pc := s.pc, flags := s.flags }

/-- inspect of a memory byte (60_exceptions.md R180). -/
def State.inspectByte (s : State) (a : Word) : Byte := s.read a

/-- How a run ends (40_dispatch.md R78; 70_reset_and_hazards.md R195). -/
inductive RunEnd where
  | halted
  | faulted (f : Fault)
  | refused (r : Refusal)
deriving DecidableEq, Repr

/-- run: steps until the external halt, here after `haltAfter` more steps (log 10), or until the first fault or refusal,
with the unchanged state before it (40_dispatch.md R78). -/
def run : Nat → State → RunEnd × State
  | 0, s => (.halted, s)
  | haltAfter + 1, s =>
    match step s with
    | .next t => run haltAfter t
    | .fault f => (.faulted f, s)
    | .refused r => (.refused r, s)

/-- The outcome codes: 0 Ok, 1 DecodeFault, 2 Refused (60_exceptions.md R171). -/
def outcomeCode : Result → Nat
  | .next _ => 0
  | .fault _ => 1
  | .refused _ => 2

end Sys2Proof.Machine
end

