-- ==== Sys2Proof/Safety.lean ====
section
/-!
DEFINITION. The terms claims are stated in: what it is for bytes to run as an instruction, where an instruction stores,
which instructions read the configuration, and what a safe run is.
-/

namespace Sys2Proof.Machine

/-- The bytes are the encoding of `i` in the whole table, and `i` takes `s` to the next state `t`. -/
def RunsAs (i : Instr) (bytes : List Byte) (s t : State) : Prop :=
  decode .full bytes = .instr i [] ∧ exec i s = .next t

/-- `i` executed `n` times, stopping where it does not answer a next state. -/
def execTimes (i : Instr) : Nat → State → Result
  | 0, s => .next s
  | n + 1, s =>
    match exec i s with
    | .next t => execTimes i n t
    | r => r

/-- `n` single steps, stopping where a step does not answer a next state. -/
def stepTimes : Nat → State → Result
  | 0, s => .next s
  | n + 1, s =>
    match step s with
    | .next t => stepTimes n t
    | r => r

/-- The addresses an instruction stores a byte to, in order: the resolved address of a store, a memory shift, INC or DEC,
and the stack bytes of a push (20_memory.md R44, R55). Every other instruction stores nothing. -/
def storedTo (i : Instr) (s : State) : List Word :=
  match i with
  | .staZp b1 => [zeroPage b1]
  | .staZpx b1 => [zeroPageX b1 s]
  | .staAbs w => [absolute w]
  | .staAbx w => [absoluteX w s]
  | .staAby w => [absoluteY w s]
  | .staIzx b1 => [indexedIndirectX b1 s]
  | .staIzy b1 => [indirectIndexedY b1 s]
  | .stxZp b1 => [zeroPage b1]
  | .stxZpy b1 => [zeroPageY b1 s]
  | .stxAbs w => [absolute w]
  | .styZp b1 => [zeroPage b1]
  | .styZpx b1 => [zeroPageX b1 s]
  | .styAbs w => [absolute w]
  | .aslZp b1 => [zeroPage b1]
  | .aslZpx b1 => [zeroPageX b1 s]
  | .aslAbs w => [absolute w]
  | .aslAbx w => [absoluteX w s]
  | .lsrZp b1 => [zeroPage b1]
  | .lsrZpx b1 => [zeroPageX b1 s]
  | .lsrAbs w => [absolute w]
  | .lsrAbx w => [absoluteX w s]
  | .rolZp b1 => [zeroPage b1]
  | .rolZpx b1 => [zeroPageX b1 s]
  | .rolAbs w => [absolute w]
  | .rolAbx w => [absoluteX w s]
  | .rorZp b1 => [zeroPage b1]
  | .rorZpx b1 => [zeroPageX b1 s]
  | .rorAbs w => [absolute w]
  | .rorAbx w => [absoluteX w s]
  | .incZp b1 => [zeroPage b1]
  | .incZpx b1 => [zeroPageX b1 s]
  | .incAbs w => [absolute w]
  | .incAbx w => [absoluteX w s]
  | .decZp b1 => [zeroPage b1]
  | .decZpx b1 => [zeroPageX b1 s]
  | .decAbs w => [absolute w]
  | .decAbx w => [absoluteX w s]
  | .pha => [stackAddr s.sp]
  | .php => [stackAddr s.sp]
  | .jsr _ => [stackAddr s.sp, stackAddr (s.sp - 1)]
  | .brk _ => [stackAddr s.sp, stackAddr (s.sp - 1), stackAddr (s.sp - 2)]
  | _ => []

/-- The instructions whose effect can depend on a parameter besides the profile: PHP (`PHP_B_BIT`), ADC and SBC
(`DECIMAL_MODE`), and the two zero-page indirect modes (`ZP_PTR_WRAP`) (00_scope.md R5). -/
def usesParams (i : Instr) : Bool :=
  i.mnemonic ∈ [.php, .adc, .sbc] ||
    match i with
    | .ldaIzx _ | .ldaIzy _ | .staIzx _ | .staIzy _ | .adcIzx _ | .adcIzy _ | .sbcIzx _ | .sbcIzy _
    | .andIzx _ | .andIzy _ | .oraIzx _ | .oraIzy _ | .eorIzx _ | .eorIzy _ | .cmpIzx _ | .cmpIzy _ => true
    | _ => false

/-- A run that is not stopped: it reaches the external halt (40_dispatch.md R78). -/
def SafeRun (haltAfter : Nat) (s : State) : Prop := (run haltAfter s).1 = .halted

/-- The invariant of the machine: the memory is in its canonical form. -/
def State.Inv (s : State) : Prop := s.mem.wf = true

end Sys2Proof.Machine
end

