-- ==== Sys2Proof/Certificates/Slice0/Obligations.lean ====
section
/-!
DEFINITION. The obligations of this model, stated from the numbered rules of the spec. `RunsAs i bytes s t` says that the
bytes are the encoding of `i` and that exec takes `s` to the next state `t`; a state written as an update of `s` says with
the new values that everything else is unchanged. `exec` is not gated by the profile (log 7, DEDUCED): where a statement
speaks of exec of an instruction of profile FULL in a state of profile CORE, that is the model's choice and no rule of the
spec. An immediate operand is the byte the instruction carries (log 8, DEDUCED).
-/

open Sys2Proof Sys2Proof.Machine

/-- For every profile, every instruction that profile has, and any bytes after it, decoding the encoded bytes gives the
instruction with every operand and leaves the bytes after it. Rests on R56, R57, R62, R63. -/
def Obligations.DecodeOfEncodeIsTheInstruction : Prop :=
  ∀ (p : Profile) (i : Instr) (rest : List Byte),
    i.wellFormed p = true → decode p (encode i ++ rest) = .instr i rest

/-- Whenever bytes decode to an instruction in a profile, encoding it and appending the rest gives the bytes, and the
instruction is one of that profile: no bit of an encoding is dropped and no byte string has two readings. Rests on
R56, R57, R65. -/
def Obligations.EncodeOfDecodeIsTheBytes : Prop :=
  ∀ (p : Profile) (bytes rest : List Byte) (i : Instr),
    decode p bytes = .instr i rest → encode i ++ rest = bytes ∧ i.wellFormed p = true

/-- The thirteen example encodings of the assembler syntax table, one for each addressing mode, decode to the
instruction they stand for, the CORE ones in profile CORE too. Rests on R66, R62, R63. -/
def Obligations.SyntaxTableExamplesDecode : Prop :=
  decode .core [0xAA] = .instr .tax [] ∧
  decode .core [0x0A] = .instr .aslAcc [] ∧
  decode .core [0xA9, 0x80] = .instr (.ldaImm 0x80) [] ∧
  decode .core [0xA5, 0x10] = .instr (.ldaZp 0x10) [] ∧
  decode .core [0xB5, 0x10] = .instr (.ldaZpx 0x10) [] ∧
  decode .core [0xB6, 0x10] = .instr (.ldxZpy 0x10) [] ∧
  decode .core [0xAD, 0x34, 0x12] = .instr (.ldaAbs 0x1234) [] ∧
  decode .core [0x9D, 0x00, 0x02] = .instr (.staAbx 0x0200) [] ∧
  decode .core [0xB9, 0x00, 0x02] = .instr (.ldaAby 0x0200) [] ∧
  decode .full [0x6C, 0x00, 0x10] = .instr (.jmpInd 0x1000) [] ∧
  decode .core [0xA1, 0x20] = .instr (.ldaIzx 0x20) [] ∧
  decode .core [0x91, 0x20] = .instr (.staIzy 0x20) [] ∧
  decode .full [0xD0, 0xF9] = .instr (.bne 0xF9) []

/-- Of the 256 byte values 195 have no entry in the CORE table and 105 none in the FULL table, and the table has 151
rows. Rests on R62, R63, R64, R65. -/
def Obligations.UnassignedByteCounts : Prop :=
  let unassigned (p : Profile) : Nat :=
    ((List.range 256).filter fun n => (lookupOpcode p (BitVec.ofNat 8 n)).isNone).length
  unassigned .core = 195 ∧ unassigned .full = 105 ∧ opcodeTable.length = 151

/-- If the CORE table decodes three bytes to an instruction, the FULL table decodes them to the same instruction. Rests
on R62, R63. -/
def Obligations.CoreTableIsPartOfFull : Prop :=
  ∀ (op b1 b2 : Byte) (i : Instr),
    decodeWindow .core op b1 b2 = some i → decodeWindow .full op b1 b2 = some i

/-- When the bytes at PC, PC + 1 and PC + 2 decode to an instruction in the active profile, the step is exec of that
instruction at that state; the PC advance is part of exec. That three bytes are read whatever the length is the
model's reading (log 8). Rests on R67, R68, R69. -/
def Obligations.StepRunsTheDecodedInstruction : Prop :=
  ∀ (s : State) (i : Instr) (rest : List Byte),
    decode s.params.profile [s.read s.pc, s.read (s.pc + 1), s.read (s.pc + 2)] = .instr i rest → step s = exec i s

/-- When the byte at PC has no entry in the active profile, the step is the decode fault that carries PC and the byte,
and a fault carries no new state. Formalises R70. -/
def Obligations.StepFaultsOnUnassignedByte : Prop :=
  ∀ s : State,
    lookupOpcode s.params.profile (s.read s.pc) = none → step s = .fault (.decodeFault s.pc (s.read s.pc))

/-- A step that faults faults with the decode fault of the byte at PC, which has no entry; a step that refuses is the
decimal refusal of the byte at PC, in profile FULL with D = 1 and DECIMAL_MODE = REFUSE, and that byte is an opcode
of ADC or SBC. Rests on R170, R171, R172, R173, R175. -/
def Obligations.StepStopsOnlyAsListed : Prop :=
  ∀ s : State,
    (∀ f, step s = .fault f →
      f = .decodeFault s.pc (s.read s.pc) ∧ lookupOpcode s.params.profile (s.read s.pc) = none) ∧
    (∀ r, step s = .refused r →
      r = .unmodelledDecimal s.pc (s.read s.pc) ∧ s.params.profile = .full ∧ s.flags.d = true ∧
        s.params.decimalMode = .refuse ∧ ∃ i, fetchInstr s = some i ∧ i.mnemonic ∈ [.adc, .sbc])

/-- In profile CORE every step at which the byte at PC has an entry answers a next state whose PC is PC plus the length
of the instruction, and every other step is the decode fault of that byte: no CORE instruction refuses, faults or
writes PC. Rests on R72, R73, R76. -/
def Obligations.CoreProfileStepsAdvance : Prop :=
  ∀ s : State, s.params.profile = .core →
    (∀ i, fetchInstr s = some i →
      ∃ t, step s = .next t ∧ t.pc = s.pc + BitVec.ofNat 16 i.length) ∧
    (fetchInstr s = none → step s = .fault (.decodeFault s.pc (s.read s.pc)))

/-- If run ends in a fault (or a refusal), the state it gives is reached by fewer than n single steps and its step is
that fault (or refusal); it ends at the halt after n steps with a state exactly when n single steps reach that
state, and it is safe exactly when n single steps reach some state. The external halt is the number n, the model's
reading (log 10). Rests on R78, R195. -/
def Obligations.RunStopsBeforeTheFirstStop : Prop :=
  ∀ (n : Nat) (s t : State),
    (∀ f, run n s = (.faulted f, t) →
      (∃ k, k < n ∧ stepTimes k s = .next t) ∧ step t = .fault f) ∧
    (∀ r, run n s = (.refused r, t) →
      (∃ k, k < n ∧ stepTimes k s = .next t) ∧ step t = .refused r) ∧
    (run n s = (.halted, t) ↔ stepTimes n s = .next t) ∧
    (SafeRun n s ↔ ∃ u, stepTimes n s = .next u)

/-- init makes PC the word whose low byte is at 0xFFFC and high byte at 0xFFFD, and changes no other register, flag or
memory byte. Formalises R190. -/
def Obligations.InitReadsTheResetVector : Prop :=
  ∀ s : State, s.init = { s with pc := word (s.read 0xFFFC) (s.read 0xFFFD) }

/-- For every choice of the OPEN parameters and every image of 65536 bytes, the launch state has those registers and
flags, byte k of the image at every address k, and PC from the image at 0xFFFC and 0xFFFD. Rests on R189, R190, R31. -/
def Obligations.LaunchHoldsEveryInput : Prop :=
  ∀ l : Launch, l.image.length = 65536 →
    let s := State.launch l
    s.a = l.a ∧ s.x = l.x ∧ s.y = l.y ∧ s.sp = l.sp ∧ s.flags = l.flags ∧ s.params = l.params ∧
    (∀ k : Word, l.image[k.toNat]? = some (s.read k)) ∧
    s.pc = word (s.read 0xFFFC) (s.read 0xFFFD)

/-- The model's choice, logs 2, 3 and 4: at reset A, X, Y, SP and the flags are 0, every byte reads 0, the parameters
have the spec's defaults, and so PC is 0. Rests on 10_state.md section 6, 00_scope.md section 4, 92_eei_decisions.md
D7. -/
def Obligations.ResetTakesTheModelsChoices : Prop :=
  State.reset.a = 0 ∧ State.reset.x = 0 ∧ State.reset.y = 0 ∧ State.reset.sp = 0 ∧ State.reset.pc = 0 ∧
  State.reset.flags = Flags.unpack 0 ∧ State.reset.params = Params.default ∧ ∀ a, State.reset.read a = 0

/-- Memory is in its canonical form at reset, and after a launch with any image. What an unlisted byte reads as and what
a short or long image leaves are the model's choice (logs 4 and 11). Rests on R29, R189. -/
def Obligations.LaunchMeetsTheInvariant : Prop :=
  State.reset.Inv ∧ ∀ l, (State.launch l).Inv

/-- From every state whose memory is in its canonical form (addresses rising and below 65536, no cell equal to an
unlisted byte), a step that answers a next state gives one whose memory is in that form. Rests on R29, R38, R39. -/
def Obligations.StepKeepsTheInvariant : Prop :=
  ∀ s t : State, s.Inv → step s = .next t → t.Inv

/-- A step that answers a next state leaves every parameter (profile, PHP_B_BIT, ZP_PTR_WRAP, DECIMAL_MODE) as it was;
so does exec of any instruction. That the parameters are a field of State is the model's choice (log 1). Rests on
R32. -/
def Obligations.StepKeepsTheConfiguration : Prop :=
  (∀ s t : State, step s = .next t → t.params = s.params) ∧
  ∀ (i : Instr) (s t : State), exec i s = .next t → t.params = s.params

/-- Reading or writing at an address plus any multiple of 65536 is reading or writing at the address. Formalises R40. -/
def Obligations.MemoryWrapsModulo65536 : Prop :=
  ∀ (m : Memory) (a k : Nat) (v : Byte),
    m.read (a + 65536 * k) = m.read a ∧ m.write (a + 65536 * k) v = m.write a v

/-- If two memories are in canonical form and every address below 65536 reads the same byte in both, they are the same
list. Rests on R29, R37. -/
def Obligations.CanonicalMemoryIsItsReads : Prop :=
  ∀ m m' : Memory, m.wf = true → m'.wf = true → (∀ a, a < 65536 → m.read a = m'.read a) → m = m'

/-- update_nz(v) sets Z iff v is 0 and N iff bit 7 of v is 1; pack(unpack(b)) is b with bit 5 set, for every byte;
unpack(pack()) gives every flag state back. Formalises R27. -/
def Obligations.FlagPrimitiveLaws : Prop :=
  (∀ (f : Flags) (v : Byte), ((f.updateNz v).z = true ↔ v = 0) ∧ ((f.updateNz v).n = true ↔ v.getLsbD 7 = true)) ∧
  (∀ b : Byte, (Flags.unpack b).pack = b ||| 0b00100000) ∧
  ∀ f : Flags, Flags.unpack f.pack = f

/-- The packed byte is N·128 + V·64 + 32 + B·16 + D·8 + I·4 + Z·2 + C, and unpack takes N V B D I Z C from bits 7 6 4 3
2 1 0. Formalises R22, R25, R26. -/
def Obligations.PackedFlagLayout : Prop :=
  (∀ f : Flags,
    f.pack.toNat = f.n.toNat * 128 + f.v.toNat * 64 + 32 + f.b.toNat * 16 + f.d.toNat * 8 + f.i.toNat * 4 +
      f.z.toNat * 2 + f.c.toNat) ∧
  ∀ b : Byte,
    Flags.unpack b =
      { n := b.getLsbD 7, v := b.getLsbD 6, b := b.getLsbD 4, d := b.getLsbD 3, i := b.getLsbD 2,
        z := b.getLsbD 1, c := b.getLsbD 0 }

/-- Zero Page is b1; Zero Page,X and ,Y are (b1 + index) mod 256; Absolute is the operand word; Absolute,X and ,Y are
(word + index) mod 65536; Relative is PC + 2 plus the signed offset, mod 65536. Rests on R85, R86, R88, R89, R90,
R94. -/
def Obligations.DirectModesInExactArithmetic : Prop :=
  ∀ (s : State) (b1 : Byte) (w : Word),
    (zeroPage b1).toNat = b1.toNat ∧
    (zeroPageX b1 s).toNat = (b1.toNat + s.x.toNat) % 256 ∧
    (zeroPageY b1 s).toNat = (b1.toNat + s.y.toNat) % 256 ∧
    absolute w = w ∧
    (absoluteX w s).toNat = (w.toNat + s.x.toNat) % 65536 ∧
    (absoluteY w s).toNat = (w.toNat + s.y.toNat) % 65536 ∧
    ((relative b1 s).toNat : Int) = ((s.pc.toNat : Int) + 2 + b1.toInt) % 65536

/-- The Indirect mode reads the low byte of the target at the pointer and the high byte at the address with the
pointer's high byte and its low byte plus 1 modulo 256. Rests on R91. -/
def Obligations.IndirectModeStaysInThePage : Prop :=
  ∀ (s : State) (ptr : Word),
    lo8 (indirect ptr s) = s.read ptr ∧
    hi8 (indirect ptr s) = s.read (BitVec.ofNat 16 (ptr.toNat / 256 * 256 + (ptr.toNat + 1) % 256))

/-- The two indirect modes read the low byte of their pointer in the zero page at z and its high byte at z + 1; at z =
0xFF the high byte is at 0x0100 under LINEAR and at 0x0000 under ZEROPAGE; IZX takes z = (b1 + X) mod 256 and IZY
adds Y to the pointer modulo 65536. Rests on R92, R93. -/
def Obligations.ZeroPagePointerByParameter : Prop :=
  (∀ (s : State) (z : Byte), z ≠ 0xFF →
    zeroPagePointer z s = word (s.mem.read z.toNat) (s.mem.read (z.toNat + 1))) ∧
  (∀ s : State, s.params.zpPtrWrap = .linear →
    zeroPagePointer 0xFF s = word (s.mem.read 0x00FF) (s.mem.read 0x0100)) ∧
  (∀ s : State, s.params.zpPtrWrap = .zeroPage →
    zeroPagePointer 0xFF s = word (s.mem.read 0x00FF) (s.mem.read 0x0000)) ∧
  ∀ (s : State) (b1 : Byte),
    indexedIndirectX b1 s = zeroPagePointer (BitVec.ofNat 8 (b1.toNat + s.x.toNat)) s ∧
    (indirectIndexedY b1 s).toNat = ((zeroPagePointer b1 s).toNat + s.y.toNat) % 65536

/-- With X = 0 Absolute,X is Absolute and Zero Page,X is Zero Page; with Y = 0 Absolute,Y is Absolute, Zero Page,Y is
Zero Page, and Indirect Indexed is the pointer itself. Rests on R96. -/
def Obligations.ResolverLawsAtIndexZero : Prop :=
  ∀ (s : State) (b1 : Byte) (w : Word),
    (s.x = 0 → absoluteX w s = absolute w ∧ zeroPageX b1 s = zeroPage b1) ∧
    (s.y = 0 → absoluteY w s = absolute w ∧ zeroPageY b1 s = zeroPage b1 ∧
      indirectIndexedY b1 s = zeroPagePointer b1 s)

/-- Each of the eight encodings of LDA runs, reads the byte its mode names, puts it in A, sets Z iff it is 0 and N from
bit 7, advances PC by its length, and changes nothing else. Formalises R97. -/
def Obligations.LdaLoadsTheAccumulator : Prop :=
  ∀ (s : State) (b1 : Byte) (w : Word),
    let lda (len : Word) (v : Byte) : State :=
      { s with a := v, flags := { s.flags with n := v.getLsbD 7, z := v == 0 }, pc := s.pc + len }
    RunsAs (.ldaImm b1) [0xA9, b1] s (lda 2 b1) ∧
    RunsAs (.ldaZp b1) [0xA5, b1] s (lda 2 (s.read (zeroPage b1))) ∧
    RunsAs (.ldaZpx b1) [0xB5, b1] s (lda 2 (s.read (zeroPageX b1 s))) ∧
    RunsAs (.ldaAbs w) [0xAD, lo8 w, hi8 w] s (lda 3 (s.read (absolute w))) ∧
    RunsAs (.ldaAbx w) [0xBD, lo8 w, hi8 w] s (lda 3 (s.read (absoluteX w s))) ∧
    RunsAs (.ldaAby w) [0xB9, lo8 w, hi8 w] s (lda 3 (s.read (absoluteY w s))) ∧
    RunsAs (.ldaIzx b1) [0xA1, b1] s (lda 2 (s.read (indexedIndirectX b1 s))) ∧
    RunsAs (.ldaIzy b1) [0xB1, b1] s (lda 2 (s.read (indirectIndexedY b1 s)))

/-- Each encoding of LDX (of LDY) runs, reads the byte its mode names, puts it in X (in Y), sets N and Z from it,
advances PC by its length, and changes nothing else; LDX indexes by Y only and LDY by X only. Formalises R98, R99. -/
def Obligations.LdxAndLdyLoadTheIndexes : Prop :=
  ∀ (s : State) (b1 : Byte) (w : Word),
    let ldx (len : Word) (v : Byte) : State :=
      { s with x := v, flags := { s.flags with n := v.getLsbD 7, z := v == 0 }, pc := s.pc + len }
    let ldy (len : Word) (v : Byte) : State :=
      { s with y := v, flags := { s.flags with n := v.getLsbD 7, z := v == 0 }, pc := s.pc + len }
    RunsAs (.ldxImm b1) [0xA2, b1] s (ldx 2 b1) ∧
    RunsAs (.ldxZp b1) [0xA6, b1] s (ldx 2 (s.read (zeroPage b1))) ∧
    RunsAs (.ldxZpy b1) [0xB6, b1] s (ldx 2 (s.read (zeroPageY b1 s))) ∧
    RunsAs (.ldxAbs w) [0xAE, lo8 w, hi8 w] s (ldx 3 (s.read (absolute w))) ∧
    RunsAs (.ldxAby w) [0xBE, lo8 w, hi8 w] s (ldx 3 (s.read (absoluteY w s))) ∧
    RunsAs (.ldyImm b1) [0xA0, b1] s (ldy 2 b1) ∧
    RunsAs (.ldyZp b1) [0xA4, b1] s (ldy 2 (s.read (zeroPage b1))) ∧
    RunsAs (.ldyZpx b1) [0xB4, b1] s (ldy 2 (s.read (zeroPageX b1 s))) ∧
    RunsAs (.ldyAbs w) [0xAC, lo8 w, hi8 w] s (ldy 3 (s.read (absolute w))) ∧
    RunsAs (.ldyAbx w) [0xBC, lo8 w, hi8 w] s (ldy 3 (s.read (absoluteX w s)))

/-- Each encoding of STA, STX and STY runs, stores A, X or Y at the address its mode gives in the state before it,
advances PC by its length, and changes no register, no flag and no other byte. Formalises R100, R101, R102. -/
def Obligations.StoresWriteOneByte : Prop :=
  ∀ (s : State) (b1 : Byte) (w : Word),
    let stored (v : Byte) (len ea : Word) : State := { s with mem := s.mem.write ea.toNat v, pc := s.pc + len }
    RunsAs (.staZp b1) [0x85, b1] s (stored s.a 2 (zeroPage b1)) ∧
    RunsAs (.staZpx b1) [0x95, b1] s (stored s.a 2 (zeroPageX b1 s)) ∧
    RunsAs (.staAbs w) [0x8D, lo8 w, hi8 w] s (stored s.a 3 (absolute w)) ∧
    RunsAs (.staAbx w) [0x9D, lo8 w, hi8 w] s (stored s.a 3 (absoluteX w s)) ∧
    RunsAs (.staAby w) [0x99, lo8 w, hi8 w] s (stored s.a 3 (absoluteY w s)) ∧
    RunsAs (.staIzx b1) [0x81, b1] s (stored s.a 2 (indexedIndirectX b1 s)) ∧
    RunsAs (.staIzy b1) [0x91, b1] s (stored s.a 2 (indirectIndexedY b1 s)) ∧
    RunsAs (.stxZp b1) [0x86, b1] s (stored s.x 2 (zeroPage b1)) ∧
    RunsAs (.stxZpy b1) [0x96, b1] s (stored s.x 2 (zeroPageY b1 s)) ∧
    RunsAs (.stxAbs w) [0x8E, lo8 w, hi8 w] s (stored s.x 3 (absolute w)) ∧
    RunsAs (.styZp b1) [0x84, b1] s (stored s.y 2 (zeroPage b1)) ∧
    RunsAs (.styZpx b1) [0x94, b1] s (stored s.y 2 (zeroPageX b1 s)) ∧
    RunsAs (.styAbs w) [0x8C, lo8 w, hi8 w] s (stored s.y 3 (absolute w))

/-- TAX, TAY, TSX, TXA and TYA run, copy their source to their destination, set N and Z from it and advance PC by 1; TXS
copies X to SP and writes no flag; nothing else changes. Formalises R103, R104, R105, R106, R107, R108. -/
def Obligations.TransfersMoveARegister : Prop :=
  ∀ s : State,
    let flagsOf (v : Byte) : Flags := { s.flags with n := v.getLsbD 7, z := v == 0 }
    RunsAs .tax [0xAA] s { s with x := s.a, flags := flagsOf s.a, pc := s.pc + 1 } ∧
    RunsAs .tay [0xA8] s { s with y := s.a, flags := flagsOf s.a, pc := s.pc + 1 } ∧
    RunsAs .tsx [0xBA] s { s with x := s.sp, flags := flagsOf s.sp, pc := s.pc + 1 } ∧
    RunsAs .txa [0x8A] s { s with a := s.x, flags := flagsOf s.x, pc := s.pc + 1 } ∧
    RunsAs .tya [0x98] s { s with a := s.y, flags := flagsOf s.y, pc := s.pc + 1 } ∧
    RunsAs .txs [0x9A] s { s with sp := s.x, pc := s.pc + 1 }

/-- PHA stores A and PHP stores the packed flags with bit 5 set, and bit 4 set (FORCE_ONE) or as stored (STORED), at
0x0100 + SP; SP goes down by 1 modulo 256, PC up by 1; no flag and nothing else changes. Formalises R112, R113. -/
def Obligations.PushesStoreThenDecrement : Prop :=
  ∀ s : State,
    let pushed (v : Byte) : State :=
      { s with mem := s.mem.write (0x0100 + s.sp.toNat) v, sp := s.sp - 1, pc := s.pc + 1 }
    RunsAs .pha [0x48] s (pushed s.a) ∧
    (s.params.phpBBit = .forceOne → RunsAs .php [0x08] s (pushed (s.flags.pack ||| 0x10))) ∧
    (s.params.phpBBit = .stored → RunsAs .php [0x08] s (pushed s.flags.pack))

/-- PLA puts the byte at 0x0100 + (SP + 1 mod 256) in A and sets N and Z from it; PLP puts bits 7 6 4 3 2 1 0 of that
byte in N V B D I Z C; SP goes up by 1 modulo 256, PC by 1, and nothing else changes. Formalises R114, R115. -/
def Obligations.PullsIncrementThenLoad : Prop :=
  ∀ s : State,
    let v : Byte := s.mem.read (0x0100 + (s.sp + 1).toNat)
    RunsAs .pla [0x68] s
      { s with a := v, sp := s.sp + 1, flags := { s.flags with n := v.getLsbD 7, z := v == 0 }, pc := s.pc + 1 } ∧
    RunsAs .plp [0x28] s
      { s with
        sp := s.sp + 1
        flags := { n := v.getLsbD 7, v := v.getLsbD 6, b := v.getLsbD 4, d := v.getLsbD 3, i := v.getLsbD 2,
                   z := v.getLsbD 1, c := v.getLsbD 0 }
        pc := s.pc + 1 }

/-- Each encoding of ASL (of LSR) runs, shifts the byte at its location left (right) by one with a 0 in the vacated bit,
writes it back to the same location, puts old bit 7 (bit 0) in C, sets N and Z from the result, advances PC, and
changes nothing else. Formalises R116, R117. -/
def Obligations.ShiftsMoveTheBitOutToCarry : Prop :=
  ∀ (s : State) (b1 : Byte) (w : Word),
    let asl (v : Byte) : Byte := BitVec.ofNat 8 (2 * v.toNat)
    let aslFlags (v : Byte) : Flags := { s.flags with n := (asl v).getLsbD 7, z := asl v == 0, c := v.getLsbD 7 }
    let aslMem (len ea : Word) : State :=
      { s with mem := s.mem.write ea.toNat (asl (s.read ea)), flags := aslFlags (s.read ea), pc := s.pc + len }
    let lsr (v : Byte) : Byte := BitVec.ofNat 8 (v.toNat / 2)
    let lsrFlags (v : Byte) : Flags := { s.flags with n := (lsr v).getLsbD 7, z := lsr v == 0, c := v.getLsbD 0 }
    let lsrMem (len ea : Word) : State :=
      { s with mem := s.mem.write ea.toNat (lsr (s.read ea)), flags := lsrFlags (s.read ea), pc := s.pc + len }
    RunsAs .aslAcc [0x0A] s { s with a := asl s.a, flags := aslFlags s.a, pc := s.pc + 1 } ∧
    RunsAs (.aslZp b1) [0x06, b1] s (aslMem 2 (zeroPage b1)) ∧
    RunsAs (.aslZpx b1) [0x16, b1] s (aslMem 2 (zeroPageX b1 s)) ∧
    RunsAs (.aslAbs w) [0x0E, lo8 w, hi8 w] s (aslMem 3 (absolute w)) ∧
    RunsAs (.aslAbx w) [0x1E, lo8 w, hi8 w] s (aslMem 3 (absoluteX w s)) ∧
    RunsAs .lsrAcc [0x4A] s { s with a := lsr s.a, flags := lsrFlags s.a, pc := s.pc + 1 } ∧
    RunsAs (.lsrZp b1) [0x46, b1] s (lsrMem 2 (zeroPage b1)) ∧
    RunsAs (.lsrZpx b1) [0x56, b1] s (lsrMem 2 (zeroPageX b1 s)) ∧
    RunsAs (.lsrAbs w) [0x4E, lo8 w, hi8 w] s (lsrMem 3 (absolute w)) ∧
    RunsAs (.lsrAbx w) [0x5E, lo8 w, hi8 w] s (lsrMem 3 (absoluteX w s))

/-- Each encoding of ROL (of ROR) runs, rotates the byte at its location left (right) by one with the incoming carry in
the vacated bit, writes it back, puts old bit 7 (bit 0) in C, sets N and Z from the result, advances PC, and changes
nothing else. Formalises R118, R119. -/
def Obligations.RotatesGoThroughCarry : Prop :=
  ∀ (s : State) (b1 : Byte) (w : Word),
    let rol (v : Byte) : Byte := BitVec.ofNat 8 (2 * v.toNat + s.flags.c.toNat)
    let rolFlags (v : Byte) : Flags := { s.flags with n := (rol v).getLsbD 7, z := rol v == 0, c := v.getLsbD 7 }
    let rolMem (len ea : Word) : State :=
      { s with mem := s.mem.write ea.toNat (rol (s.read ea)), flags := rolFlags (s.read ea), pc := s.pc + len }
    let ror (v : Byte) : Byte := BitVec.ofNat 8 (v.toNat / 2 + 128 * s.flags.c.toNat)
    let rorFlags (v : Byte) : Flags := { s.flags with n := (ror v).getLsbD 7, z := ror v == 0, c := v.getLsbD 0 }
    let rorMem (len ea : Word) : State :=
      { s with mem := s.mem.write ea.toNat (ror (s.read ea)), flags := rorFlags (s.read ea), pc := s.pc + len }
    RunsAs .rolAcc [0x2A] s { s with a := rol s.a, flags := rolFlags s.a, pc := s.pc + 1 } ∧
    RunsAs (.rolZp b1) [0x26, b1] s (rolMem 2 (zeroPage b1)) ∧
    RunsAs (.rolZpx b1) [0x36, b1] s (rolMem 2 (zeroPageX b1 s)) ∧
    RunsAs (.rolAbs w) [0x2E, lo8 w, hi8 w] s (rolMem 3 (absolute w)) ∧
    RunsAs (.rolAbx w) [0x3E, lo8 w, hi8 w] s (rolMem 3 (absoluteX w s)) ∧
    RunsAs .rorAcc [0x6A] s { s with a := ror s.a, flags := rorFlags s.a, pc := s.pc + 1 } ∧
    RunsAs (.rorZp b1) [0x66, b1] s (rorMem 2 (zeroPage b1)) ∧
    RunsAs (.rorZpx b1) [0x76, b1] s (rorMem 2 (zeroPageX b1 s)) ∧
    RunsAs (.rorAbs w) [0x6E, lo8 w, hi8 w] s (rorMem 3 (absolute w)) ∧
    RunsAs (.rorAbx w) [0x7E, lo8 w, hi8 w] s (rorMem 3 (absoluteX w s))

/-- With D = 0 or DECIMAL_MODE = BINARY each encoding of ADC runs: A becomes A + m + C modulo 256, C is the carry out of
bit 7, V is 1 iff A and m have the same sign and the result the other, N and Z come from the result, PC advances,
nothing else changes. Rests on R121, R120. -/
def Obligations.AdcAddsWithCarry : Prop :=
  ∀ (s : State) (b1 : Byte) (w : Word), s.flags.d = false ∨ s.params.decimalMode = .binary →
    let added (len : Word) (m : Byte) : State :=
      let sum : Nat := s.a.toNat + m.toNat + s.flags.c.toNat
      let r : Byte := BitVec.ofNat 8 sum
      { s with
        a := r
        flags := { s.flags with
          n := r.getLsbD 7, z := r == 0, c := decide (255 < sum), v := s.a.msb == m.msb && r.msb != s.a.msb }
        pc := s.pc + len }
    RunsAs (.adcImm b1) [0x69, b1] s (added 2 b1) ∧
    RunsAs (.adcZp b1) [0x65, b1] s (added 2 (s.read (zeroPage b1))) ∧
    RunsAs (.adcZpx b1) [0x75, b1] s (added 2 (s.read (zeroPageX b1 s))) ∧
    RunsAs (.adcAbs w) [0x6D, lo8 w, hi8 w] s (added 3 (s.read (absolute w))) ∧
    RunsAs (.adcAbx w) [0x7D, lo8 w, hi8 w] s (added 3 (s.read (absoluteX w s))) ∧
    RunsAs (.adcAby w) [0x79, lo8 w, hi8 w] s (added 3 (s.read (absoluteY w s))) ∧
    RunsAs (.adcIzx b1) [0x61, b1] s (added 2 (s.read (indexedIndirectX b1 s))) ∧
    RunsAs (.adcIzy b1) [0x71, b1] s (added 2 (s.read (indirectIndexedY b1 s)))

/-- With D = 0 or DECIMAL_MODE = BINARY each encoding of SBC runs: A becomes A - m - (1 - C) modulo 256, C is 1 iff no
borrow occurred, V is 1 iff the signed difference leaves -128..127, N and Z come from the result, PC advances,
nothing else changes. Rests on R122, R120. -/
def Obligations.SbcSubtractsWithBorrow : Prop :=
  ∀ (s : State) (b1 : Byte) (w : Word), s.flags.d = false ∨ s.params.decimalMode = .binary →
    let subtracted (len : Word) (m : Byte) : State :=
      let borrow : Nat := 1 - s.flags.c.toNat
      let r : Byte := s.a - m - BitVec.ofNat 8 borrow
      let d : Int := s.a.toInt - m.toInt - borrow
      { s with
        a := r
        flags := { s.flags with
          n := r.getLsbD 7, z := r == 0, c := decide (m.toNat + borrow ≤ s.a.toNat), v := decide (d < -128 ∨ 127 < d) }
        pc := s.pc + len }
    RunsAs (.sbcImm b1) [0xE9, b1] s (subtracted 2 b1) ∧
    RunsAs (.sbcZp b1) [0xE5, b1] s (subtracted 2 (s.read (zeroPage b1))) ∧
    RunsAs (.sbcZpx b1) [0xF5, b1] s (subtracted 2 (s.read (zeroPageX b1 s))) ∧
    RunsAs (.sbcAbs w) [0xED, lo8 w, hi8 w] s (subtracted 3 (s.read (absolute w))) ∧
    RunsAs (.sbcAbx w) [0xFD, lo8 w, hi8 w] s (subtracted 3 (s.read (absoluteX w s))) ∧
    RunsAs (.sbcAby w) [0xF9, lo8 w, hi8 w] s (subtracted 3 (s.read (absoluteY w s))) ∧
    RunsAs (.sbcIzx b1) [0xE1, b1] s (subtracted 2 (s.read (indexedIndirectX b1 s))) ∧
    RunsAs (.sbcIzy b1) [0xF1, b1] s (subtracted 2 (s.read (indirectIndexedY b1 s)))

/-- When ADC answers a next state, V is 1 there iff A + m + C, read as two's complement numbers, is below -128 or above
127 (stated for the immediate form, whose operand is any byte). Rests on R121, R160. -/
def Obligations.AdcOverflowIsSignedOverflow : Prop :=
  ∀ (s t : State) (m : Byte), exec (.adcImm m) s = .next t →
    let sum : Int := s.a.toInt + m.toInt + s.flags.c.toNat
    (t.flags.v = true ↔ sum < -128 ∨ 127 < sum)

/-- Every form of ADC and SBC with D = 1 under DECIMAL_MODE = REFUSE is the refusal UnmodelledDecimal, which carries PC
and the opcode of the form and no new state, no other instruction refuses in any state, a step refuses only in
profile FULL, and a run that reaches a refusal ends there with it and the state unchanged. That the first clause
holds of exec in a state of profile CORE too is the model's choice (log 7); that a run is told its number of steps
is log 10. Rests on R120, R171, R172, R78. -/
def Obligations.DecimalGateRefuses : Prop :=
  (∀ (s : State) (i : Instr) (op : Byte), i.mnemonic ∈ [.adc, .sbc] → (encode i).head? = some op →
    s.flags.d = true → s.params.decimalMode = .refuse → exec i s = .refused (.unmodelledDecimal s.pc op)) ∧
  (∀ (s : State) (i : Instr) (r : Refusal), exec i s = .refused r →
    i.mnemonic ∈ [.adc, .sbc] ∧ s.flags.d = true ∧ s.params.decimalMode = .refuse) ∧
  (∀ (s : State) (r : Refusal), step s = .refused r → s.params.profile = .full) ∧
  ∀ (n : Nat) (s : State) (r : Refusal), step s = .refused r → run (n + 1) s = (.refused r, s)

/-- Each encoding of AND, ORA and EOR runs, puts the bitwise AND, OR or exclusive OR of A and the byte its mode names in
A, sets N and Z from it, advances PC, and changes nothing else (V and C among it). Formalises R123, R124, R125. -/
def Obligations.LogicInstructionsCombineWithA : Prop :=
  ∀ (s : State) (b1 : Byte) (w : Word),
    let setA (len : Word) (r : Byte) : State :=
      { s with a := r, flags := { s.flags with n := r.getLsbD 7, z := r == 0 }, pc := s.pc + len }
    RunsAs (.andImm b1) [0x29, b1] s (setA 2 (s.a &&& b1)) ∧
    RunsAs (.andZp b1) [0x25, b1] s (setA 2 (s.a &&& s.read (zeroPage b1))) ∧
    RunsAs (.andZpx b1) [0x35, b1] s (setA 2 (s.a &&& s.read (zeroPageX b1 s))) ∧
    RunsAs (.andAbs w) [0x2D, lo8 w, hi8 w] s (setA 3 (s.a &&& s.read (absolute w))) ∧
    RunsAs (.andAbx w) [0x3D, lo8 w, hi8 w] s (setA 3 (s.a &&& s.read (absoluteX w s))) ∧
    RunsAs (.andAby w) [0x39, lo8 w, hi8 w] s (setA 3 (s.a &&& s.read (absoluteY w s))) ∧
    RunsAs (.andIzx b1) [0x21, b1] s (setA 2 (s.a &&& s.read (indexedIndirectX b1 s))) ∧
    RunsAs (.andIzy b1) [0x31, b1] s (setA 2 (s.a &&& s.read (indirectIndexedY b1 s))) ∧
    RunsAs (.oraImm b1) [0x09, b1] s (setA 2 (s.a ||| b1)) ∧
    RunsAs (.oraZp b1) [0x05, b1] s (setA 2 (s.a ||| s.read (zeroPage b1))) ∧
    RunsAs (.oraZpx b1) [0x15, b1] s (setA 2 (s.a ||| s.read (zeroPageX b1 s))) ∧
    RunsAs (.oraAbs w) [0x0D, lo8 w, hi8 w] s (setA 3 (s.a ||| s.read (absolute w))) ∧
    RunsAs (.oraAbx w) [0x1D, lo8 w, hi8 w] s (setA 3 (s.a ||| s.read (absoluteX w s))) ∧
    RunsAs (.oraAby w) [0x19, lo8 w, hi8 w] s (setA 3 (s.a ||| s.read (absoluteY w s))) ∧
    RunsAs (.oraIzx b1) [0x01, b1] s (setA 2 (s.a ||| s.read (indexedIndirectX b1 s))) ∧
    RunsAs (.oraIzy b1) [0x11, b1] s (setA 2 (s.a ||| s.read (indirectIndexedY b1 s))) ∧
    RunsAs (.eorImm b1) [0x49, b1] s (setA 2 (s.a ^^^ b1)) ∧
    RunsAs (.eorZp b1) [0x45, b1] s (setA 2 (s.a ^^^ s.read (zeroPage b1))) ∧
    RunsAs (.eorZpx b1) [0x55, b1] s (setA 2 (s.a ^^^ s.read (zeroPageX b1 s))) ∧
    RunsAs (.eorAbs w) [0x4D, lo8 w, hi8 w] s (setA 3 (s.a ^^^ s.read (absolute w))) ∧
    RunsAs (.eorAbx w) [0x5D, lo8 w, hi8 w] s (setA 3 (s.a ^^^ s.read (absoluteX w s))) ∧
    RunsAs (.eorAby w) [0x59, lo8 w, hi8 w] s (setA 3 (s.a ^^^ s.read (absoluteY w s))) ∧
    RunsAs (.eorIzx b1) [0x41, b1] s (setA 2 (s.a ^^^ s.read (indexedIndirectX b1 s))) ∧
    RunsAs (.eorIzy b1) [0x51, b1] s (setA 2 (s.a ^^^ s.read (indirectIndexedY b1 s)))

/-- Each encoding of CMP, CPX and CPY runs, sets C iff the register is at least the operand as unsigned numbers, Z iff
they are equal and N from bit 7 of the difference, advances PC, and changes no register, no other flag and no
memory; D is not read. Formalises R126, R127, R128. -/
def Obligations.ComparesSetCarryZeroNegative : Prop :=
  ∀ (s : State) (b1 : Byte) (w : Word),
    let compared (reg : Byte) (len : Word) (m : Byte) : State :=
      { s with
        flags := { s.flags with
          c := decide (m.toNat ≤ reg.toNat), z := reg == m, n := (reg - m).getLsbD 7 }
        pc := s.pc + len }
    RunsAs (.cmpImm b1) [0xC9, b1] s (compared s.a 2 b1) ∧
    RunsAs (.cmpZp b1) [0xC5, b1] s (compared s.a 2 (s.read (zeroPage b1))) ∧
    RunsAs (.cmpZpx b1) [0xD5, b1] s (compared s.a 2 (s.read (zeroPageX b1 s))) ∧
    RunsAs (.cmpAbs w) [0xCD, lo8 w, hi8 w] s (compared s.a 3 (s.read (absolute w))) ∧
    RunsAs (.cmpAbx w) [0xDD, lo8 w, hi8 w] s (compared s.a 3 (s.read (absoluteX w s))) ∧
    RunsAs (.cmpAby w) [0xD9, lo8 w, hi8 w] s (compared s.a 3 (s.read (absoluteY w s))) ∧
    RunsAs (.cmpIzx b1) [0xC1, b1] s (compared s.a 2 (s.read (indexedIndirectX b1 s))) ∧
    RunsAs (.cmpIzy b1) [0xD1, b1] s (compared s.a 2 (s.read (indirectIndexedY b1 s))) ∧
    RunsAs (.cpxImm b1) [0xE0, b1] s (compared s.x 2 b1) ∧
    RunsAs (.cpxZp b1) [0xE4, b1] s (compared s.x 2 (s.read (zeroPage b1))) ∧
    RunsAs (.cpxAbs w) [0xEC, lo8 w, hi8 w] s (compared s.x 3 (s.read (absolute w))) ∧
    RunsAs (.cpyImm b1) [0xC0, b1] s (compared s.y 2 b1) ∧
    RunsAs (.cpyZp b1) [0xC4, b1] s (compared s.y 2 (s.read (zeroPage b1))) ∧
    RunsAs (.cpyAbs w) [0xCC, lo8 w, hi8 w] s (compared s.y 3 (s.read (absolute w)))

/-- Each encoding of BIT runs, sets Z iff A and the byte have no common bit, copies bits 7 and 6 of the byte to N and V,
advances PC, and changes nothing else. Formalises R129. -/
def Obligations.BitTestsWithoutWriting : Prop :=
  ∀ (s : State) (b1 : Byte) (w : Word),
    let tested (len : Word) (m : Byte) : State :=
      { s with
        flags := { s.flags with z := s.a &&& m == 0, n := m.getLsbD 7, v := m.getLsbD 6 }
        pc := s.pc + len }
    RunsAs (.bitZp b1) [0x24, b1] s (tested 2 (s.read (zeroPage b1))) ∧
    RunsAs (.bitAbs w) [0x2C, lo8 w, hi8 w] s (tested 3 (s.read (absolute w)))

/-- Each encoding of INC (of DEC) runs, adds 1 to (subtracts 1 from) the byte its mode addresses modulo 256, writes it
back there, sets N and Z from it, advances PC, and changes nothing else. Formalises R130, R131. -/
def Obligations.IncAndDecCountMemory : Prop :=
  ∀ (s : State) (b1 : Byte) (w : Word),
    let stored (len ea : Word) (r : Byte) : State :=
      { s with mem := s.mem.write ea.toNat r, flags := { s.flags with n := r.getLsbD 7, z := r == 0 }, pc := s.pc + len }
    RunsAs (.incZp b1) [0xE6, b1] s (stored 2 (zeroPage b1) (s.read (zeroPage b1) + 1)) ∧
    RunsAs (.incZpx b1) [0xF6, b1] s (stored 2 (zeroPageX b1 s) (s.read (zeroPageX b1 s) + 1)) ∧
    RunsAs (.incAbs w) [0xEE, lo8 w, hi8 w] s (stored 3 (absolute w) (s.read (absolute w) + 1)) ∧
    RunsAs (.incAbx w) [0xFE, lo8 w, hi8 w] s (stored 3 (absoluteX w s) (s.read (absoluteX w s) + 1)) ∧
    RunsAs (.decZp b1) [0xC6, b1] s (stored 2 (zeroPage b1) (s.read (zeroPage b1) - 1)) ∧
    RunsAs (.decZpx b1) [0xD6, b1] s (stored 2 (zeroPageX b1 s) (s.read (zeroPageX b1 s) - 1)) ∧
    RunsAs (.decAbs w) [0xCE, lo8 w, hi8 w] s (stored 3 (absolute w) (s.read (absolute w) - 1)) ∧
    RunsAs (.decAbx w) [0xDE, lo8 w, hi8 w] s (stored 3 (absoluteX w s) (s.read (absoluteX w s) - 1))

/-- INX, INY, DEX and DEY run, add 1 to or subtract 1 from their register modulo 256, set N and Z from it, advance PC by
1, and change nothing else. Formalises R132, R133, R134, R135. -/
def Obligations.IndexRegistersCount : Prop :=
  ∀ s : State,
    let flagsOf (v : Byte) : Flags := { s.flags with n := v.getLsbD 7, z := v == 0 }
    RunsAs .inx [0xE8] s { s with x := s.x + 1, flags := flagsOf (s.x + 1), pc := s.pc + 1 } ∧
    RunsAs .iny [0xC8] s { s with y := s.y + 1, flags := flagsOf (s.y + 1), pc := s.pc + 1 } ∧
    RunsAs .dex [0xCA] s { s with x := s.x - 1, flags := flagsOf (s.x - 1), pc := s.pc + 1 } ∧
    RunsAs .dey [0x88] s { s with y := s.y - 1, flags := flagsOf (s.y - 1), pc := s.pc + 1 }

/-- Each branch runs: where its flag has the value it tests PC becomes the relative target exactly, otherwise PC + 2; no
flag, register or memory byte changes. Formalises R136, R137, R138, R139, R140, R141, R142, R143, R144. -/
def Obligations.BranchesAssignPcOnTheirFlag : Prop :=
  ∀ (s : State) (b1 : Byte),
    let branched (taken : Bool) : State := { s with pc := if taken then relative b1 s else s.pc + 2 }
    RunsAs (.bpl b1) [0x10, b1] s (branched (s.flags.n == false)) ∧
    RunsAs (.bmi b1) [0x30, b1] s (branched (s.flags.n == true)) ∧
    RunsAs (.bvc b1) [0x50, b1] s (branched (s.flags.v == false)) ∧
    RunsAs (.bvs b1) [0x70, b1] s (branched (s.flags.v == true)) ∧
    RunsAs (.bcc b1) [0x90, b1] s (branched (s.flags.c == false)) ∧
    RunsAs (.bcs b1) [0xB0, b1] s (branched (s.flags.c == true)) ∧
    RunsAs (.bne b1) [0xD0, b1] s (branched (s.flags.z == false)) ∧
    RunsAs (.beq b1) [0xF0, b1] s (branched (s.flags.z == true))

/-- JMP makes PC the absolute or indirect target; JSR stores the high byte of PC + 2 at 0x0100 + SP and its low byte at
0x0100 + (SP - 1 mod 256), takes SP down by 2 and makes PC the target; RTS takes SP up by 2 and makes PC the address
it pulls plus 1; nothing else changes. Formalises R145, R146, R147. -/
def Obligations.JumpsAndSubroutines : Prop :=
  ∀ (s : State) (w : Word),
    RunsAs (.jmpAbs w) [0x4C, lo8 w, hi8 w] s { s with pc := w } ∧
    RunsAs (.jmpInd w) [0x6C, lo8 w, hi8 w] s { s with pc := indirect w s } ∧
    RunsAs (.jsr w) [0x20, lo8 w, hi8 w] s
      { s with
        mem := (s.mem.write (0x0100 + s.sp.toNat) (hi8 (s.pc + 2))).write (0x0100 + (s.sp - 1).toNat) (lo8 (s.pc + 2))
        sp := s.sp - 2
        pc := w } ∧
    RunsAs .rts [0x60] s
      { s with
        sp := s.sp + 2
        pc := word (s.mem.read (0x0100 + (s.sp + 1).toNat)) (s.mem.read (0x0100 + (s.sp + 2).toNat)) + 1 }

/-- BRK, whatever its skipped byte, stores the high and the low byte of PC + 2 and then the packed flags with bits 5 and
4 set on the stack, takes SP down by 3, sets I and no other flag, and makes PC the word at 0xFFFE read after the
pushes; RTI takes SP up by 3, sets all seven flags from the first byte and PC from the next two, with no addition.
Formalises R148, R149. -/
def Obligations.BreakEntersAndRtiReturns : Prop :=
  ∀ (s : State) (b1 : Byte),
    let m : Memory :=
      ((s.mem.write (0x0100 + s.sp.toNat) (hi8 (s.pc + 2))).write (0x0100 + (s.sp - 1).toNat) (lo8 (s.pc + 2))).write
        (0x0100 + (s.sp - 2).toNat) (s.flags.pack ||| 0x10)
    RunsAs (.brk b1) [0x00, b1] s
      { s with
        mem := m, sp := s.sp - 3, flags := { s.flags with i := true }, pc := word (m.read 0xFFFE) (m.read 0xFFFF) } ∧
    RunsAs .rti [0x40] s
      { s with
        sp := s.sp + 3
        flags := Flags.unpack (s.mem.read (0x0100 + (s.sp + 1).toNat))
        pc := word (s.mem.read (0x0100 + (s.sp + 2).toNat)) (s.mem.read (0x0100 + (s.sp + 3).toNat)) }

/-- CLC, SEC, CLI, SEI, CLV, CLD and SED run, write the one flag their rule names and advance PC by 1; NOP only advances
PC by 1; nothing else changes. Formalises R151, R152, R153, R154, R155, R156, R157, R158. -/
def Obligations.FlagInstructionsWriteOneFlag : Prop :=
  ∀ s : State,
    RunsAs .clc [0x18] s { s with flags := { s.flags with c := false }, pc := s.pc + 1 } ∧
    RunsAs .sec [0x38] s { s with flags := { s.flags with c := true }, pc := s.pc + 1 } ∧
    RunsAs .cli [0x58] s { s with flags := { s.flags with i := false }, pc := s.pc + 1 } ∧
    RunsAs .sei [0x78] s { s with flags := { s.flags with i := true }, pc := s.pc + 1 } ∧
    RunsAs .clv [0xB8] s { s with flags := { s.flags with v := false }, pc := s.pc + 1 } ∧
    RunsAs .cld [0xD8] s { s with flags := { s.flags with d := false }, pc := s.pc + 1 } ∧
    RunsAs .sed [0xF8] s { s with flags := { s.flags with d := true }, pc := s.pc + 1 } ∧
    RunsAs .nop [0xEA] s { s with pc := s.pc + 1 }

/-- For every instruction that answers a next state: A is unchanged unless it is LDA TXA TYA PLA ADC SBC AND ORA EOR or
an accumulator-mode shift or rotate; X unless LDX TAX TSX INX DEX; Y unless LDY TAY INY DEY; SP unless TXS, a push,
a pull, JSR, RTS, BRK or RTI. Rests on R16, R17, R18, R19. -/
def Obligations.RegisterWritersAreTheListed : Prop :=
  ∀ (i : Instr) (s t : State), exec i s = .next t →
    (i.mnemonic ∉ [.lda, .txa, .tya, .pla, .adc, .sbc, .and, .ora, .eor] →
      i ∉ [.aslAcc, .lsrAcc, .rolAcc, .rorAcc] → t.a = s.a) ∧
    (i.mnemonic ∉ [.ldx, .tax, .tsx, .inx, .dex] → t.x = s.x) ∧
    (i.mnemonic ∉ [.ldy, .tay, .iny, .dey] → t.y = s.y) ∧
    (i.mnemonic ∉ [.txs, .pha, .php, .pla, .plp, .jsr, .rts, .brk, .rti] → t.sp = s.sp)

/-- For every instruction that answers a next state, each of N V B D I Z C is unchanged unless the instruction is one of
that flag's writers in the table of the flag register. Rests on R23. -/
def Obligations.FlagWritersAreTheListed : Prop :=
  ∀ (i : Instr) (s t : State), exec i s = .next t →
    (i.mnemonic ∉ [.lda, .ldx, .ldy, .tax, .tay, .tsx, .txa, .tya, .pla, .plp, .asl, .lsr, .rol, .ror, .adc, .sbc, .and,
      .ora, .eor, .cmp, .cpx, .cpy, .bit, .inc, .dec, .inx, .iny, .dex, .dey, .rti] →
      t.flags.n = s.flags.n ∧ t.flags.z = s.flags.z) ∧
    (i.mnemonic ∉ [.plp, .adc, .sbc, .bit, .clv, .rti] → t.flags.v = s.flags.v) ∧
    (i.mnemonic ∉ [.plp, .rti] → t.flags.b = s.flags.b) ∧
    (i.mnemonic ∉ [.plp, .cld, .sed, .rti] → t.flags.d = s.flags.d) ∧
    (i.mnemonic ∉ [.plp, .sei, .cli, .brk, .rti] → t.flags.i = s.flags.i) ∧
    (i.mnemonic ∉ [.asl, .lsr, .rol, .ror, .plp, .adc, .sbc, .cmp, .cpx, .cpy, .clc, .sec, .rti] →
      t.flags.c = s.flags.c)

/-- For every instruction that answers a next state from a state with canonical memory, every address outside the
addresses the instruction stores to (the resolved address of a store, a memory shift, INC or DEC, the stack bytes of
a push, none for any other instruction) reads the same byte after as before. Rests on R44, R55, R109. -/
def Obligations.OnlyStoredBytesChange : Prop :=
  ∀ (i : Instr) (s t : State), s.Inv → exec i s = .next t →
    ∀ a : Word, a ∉ storedTo i s → t.read a = s.read a

/-- After STA, STX, STY, PHA, INC or DEC from a state with canonical memory, the stored address reads A, X, Y, A, the
byte plus 1 or the byte minus 1: the last value written, by the one read of a byte that data accesses and
instruction fetch share. Rests on R39, R49, R53. -/
def Obligations.StoredByteReadsBack : Prop :=
  ∀ (i : Instr) (s t : State) (a : Word), s.Inv → exec i s = .next t → storedTo i s = [a] →
    (i.mnemonic ∈ [.sta, .pha] → t.read a = s.a) ∧
    (i.mnemonic = .stx → t.read a = s.x) ∧
    (i.mnemonic = .sty → t.read a = s.y) ∧
    (i.mnemonic = .inc → t.read a = s.read a + 1) ∧
    (i.mnemonic = .dec → t.read a = s.read a - 1)

/-- For every instruction that answers a next state and is no branch, JMP, JSR, RTS, BRK or RTI, PC afterwards is PC
plus the number of bytes of its encoding, modulo 65536. Rests on R72, R73, R74. -/
def Obligations.PcAdvancesUnlessWritten : Prop :=
  ∀ (i : Instr) (s t : State), exec i s = .next t →
    i.mnemonic ∉ [.bpl, .bmi, .bvc, .bvs, .bcc, .bcs, .bne, .beq, .jmp, .jsr, .rts, .brk, .rti] →
      t.pc = s.pc + BitVec.ofNat 16 (encode i).length

/-- For every instruction but PHP, ADC, SBC and those in an indirect zero-page mode, exec of it under any other
configuration gives the same next state with that configuration. The claim is about exec and not about the step,
which decodes in the table of ISA_PROFILE and decode-faults on an opcode of FULL under CORE; that exec is the same
under both profiles is the model's choice (log 7). Rests on R5, R23, R92. -/
def Obligations.ParametersReachOnlyTheirInstructions : Prop :=
  ∀ (i : Instr) (s t : State) (p : Params), usesParams i = false → exec i s = .next t →
    exec i { s with params := p } = .next { t with params := p }

/-- Nine ROLs of the accumulator answer a next state with the A and the C there were, PC nine bytes on, and N and Z from
A; so do nine RORs. Rests on R118, R119. -/
def Obligations.NineRotatesRestore : Prop :=
  ∀ (s : State) (i : Instr), i ∈ [.rolAcc, .rorAcc] →
    execTimes i 9 s =
      .next { s with flags := { s.flags with n := s.a.getLsbD 7, z := s.a == 0 }, pc := s.pc + 9 }

/-- From every state with canonical memory, PHA then PLA leaves A and SP as they were, and PHP then PLP leaves SP and
every flag as they were except that B is 1 under FORCE_ONE. Rests on R159, R111. -/
def Obligations.PushThenPullGivesTheValueBack : Prop :=
  ∀ s : State, s.Inv →
    (∃ t u, exec .pha s = .next t ∧ exec .pla t = .next u ∧ u.a = s.a ∧ u.sp = s.sp) ∧
    ∃ t u, exec .php s = .next t ∧ exec .plp t = .next u ∧ u.sp = s.sp ∧
      (s.params.phpBBit = .forceOne → u.flags = { s.flags with b := true }) ∧
      (s.params.phpBBit = .stored → u.flags = s.flags)

/-- From every state with canonical memory, JSR goes to its target, and RTS from there goes to the address three bytes
after the JSR with the stack pointer, the registers and the flags of before, for every SP. Rests on R146, R147,
R111. -/
def Obligations.JsrThenRtsReturns : Prop :=
  ∀ (s : State) (w : Word), s.Inv →
    ∃ t u, exec (.jsr w) s = .next t ∧ t.pc = w ∧ exec .rts t = .next u ∧
      u = { s with pc := s.pc + 3, mem := t.mem }

/-- From every state with canonical memory, RTI at the state BRK gives goes to BRK's address plus 2 with SP and the
registers of before and the flags of before except B = 1, for every SP. Rests on R148, R149. -/
def Obligations.BrkThenRtiReturns : Prop :=
  ∀ (s : State) (b1 : Byte), s.Inv →
    ∃ t u, exec (.brk b1) s = .next t ∧ exec .rti t = .next u ∧
      u = { s with pc := s.pc + 2, flags := { s.flags with b := true }, mem := t.mem }

/-- From every state with canonical memory and for every moment of the external halt, the state a run gives has
canonical memory and the configuration it began with. The halt is a number of steps (log 10), and the configuration
is a field of State (log 1), both the model's choice. Rests on R78, R181, R32. -/
def Obligations.RunsKeepTheInvariant : Prop :=
  ∀ (n : Nat) (s : State), s.Inv → (run n s).2.Inv ∧ (run n s).2.params = s.params
end

