-- ==== Sys2Proof/Laws/Decode.lean ====
section
/-!
SUPPORT. The laws of the byte-order helpers, and what the decoder does with a looked-up row of each format.
-/

namespace Sys2Proof

namespace Machine

@[simp] theorem lo8_word (lo hi : Byte) : lo8 (word lo hi) = lo := by
  apply BitVec.eq_of_getLsbD_eq
  intro i h
  simp [lo8, word, zext, h, (by omega : i < 16)]

@[simp] theorem hi8_word (lo hi : Byte) : hi8 (word lo hi) = hi := by
  apply BitVec.eq_of_getLsbD_eq
  intro i h
  simp [hi8, word, zext, h, (by omega : 8 + i < 16)]

/-- A word is its two bytes put together. -/
@[simp] theorem word_lo8_hi8 (w : Word) : word (lo8 w) (hi8 w) = w := by
  apply BitVec.eq_of_getLsbD_eq
  intro i h
  by_cases hi : i < 8
  · simp [word, lo8, hi8, zext, hi, h]
  · simp [word, lo8, hi8, zext, hi, h, (by omega : i - 8 < 8), (by omega : 8 + (i - 8) = i)]

end Machine

/-- A byte string that starts with the opcode of an F1 row. -/
theorem decode_of_f1 {p : Profile} {op : Byte} {r : Row} {i : Instr} (rest : List Byte)
    (h : lookupOpcode p op = some r) (hf : r.form = .f1 i) : decode p (op :: rest) = .instr i rest := by
  simp [decode, h, hf]

/-- A byte string that starts with the opcode of an F2 row and its operand byte. -/
theorem decode_of_f2 {p : Profile} {op : Byte} {r : Row} {f : Byte → Instr} (b1 : Byte) (rest : List Byte)
    (h : lookupOpcode p op = some r) (hf : r.form = .f2 f) : decode p (op :: b1 :: rest) = .instr (f b1) rest := by
  simp [decode, h, hf]

/-- A byte string that starts with the opcode of an F3 row and the two bytes of its address. -/
theorem decode_of_f3 {p : Profile} {op : Byte} {r : Row} {f : Word → Instr} (w : Word) (rest : List Byte)
    (h : lookupOpcode p op = some r) (hf : r.form = .f3 f) :
    decode p (op :: Machine.lo8 w :: Machine.hi8 w :: rest) = .instr (f w) rest := by
  simp [decode, h, hf]

/-- A row found is a row of the table, with the opcode looked up, that the profile admits. -/
theorem lookupOpcode_some {p : Profile} {op : Byte} {r : Row} (h : lookupOpcode p op = some r) :
    r ∈ opcodeTable ∧ r.opcode = op ∧ p.admits r.profile = true := by
  have h2 := List.find?_some h
  simp only [Bool.and_eq_true, beq_iff_eq] at h2
  exact ⟨List.mem_of_find?_eq_some h, h2⟩

/-- No opcode byte stands in two rows of the table. -/
theorem opcodes_nodup : (opcodeTable.map (·.opcode)).Nodup := by decide +kernel

/-- A row of the table that the profile admits is the one its opcode finds. -/
theorem lookupOpcode_of_mem {p : Profile} {r : Row} (hr : r ∈ opcodeTable) (hp : p.admits r.profile = true) :
    lookupOpcode p r.opcode = some r := by
  cases h : lookupOpcode p r.opcode with
  | none =>
    have := List.find?_eq_none.1 h r hr
    simp [hp] at this
  | some r' =>
    obtain ⟨hm, ho, _⟩ := lookupOpcode_some h
    rw [List.inj_on_of_nodup_map opcodes_nodup hm hr ho]

/-- The window decoder is the byte-string decoder on three bytes, but for the bytes left over. -/
theorem decodeWindow_eq_some {p : Profile} {op b1 b2 : Byte} {i : Instr} :
    decodeWindow p op b1 b2 = some i ↔ ∃ rest, decode p [op, b1, b2] = .instr i rest := by
  cases h : lookupOpcode p op with
  | none => simp [decodeWindow, decode, h]
  | some r =>
    obtain ⟨o, q, form⟩ := r
    cases form <;> simp [decodeWindow, decode, h, Form.build]

end Sys2Proof
end

