-- ==== Sys2Proof/Laws/Memory.lean ====
section
/-!
SUPPORT. The laws of memory: every operation keeps the canonical form, a read after a write to the same address gives the
byte written, and a write leaves every other address alone.
-/

namespace Sys2Proof.Machine

theorem memSize_pos : 0 < memSize := by decide

theorem mod_memSize_lt (a : Nat) : a % memSize < memSize := Nat.mod_lt _ memSize_pos

theorem word_lt_memSize (a : Word) : a.toNat < memSize := a.isLt

@[simp] theorem word_mod_memSize (a : Word) : a.toNat % memSize = a.toNat := Nat.mod_eq_of_lt (word_lt_memSize a)

/-- What the canonical form says of a list with a first cell. -/
theorem wfFrom_cons {lo b : Nat} {w : Byte} {m : Memory} :
    wfFrom lo ((b, w) :: m) = true ↔ lo ≤ b ∧ b < memSize ∧ w ≠ unlisted ∧ wfFrom (b + 1) m = true := by
  simp [wfFrom, and_assoc]

/-- A form canonical from `hi` on is canonical from any lower address on. -/
theorem wfFrom_mono {lo hi : Nat} {m : Memory} (h : lo ≤ hi) (hm : wfFrom hi m = true) : wfFrom lo m = true := by
  cases m with
  | nil => rfl
  | cons c m =>
    obtain ⟨b, w⟩ := c
    rw [wfFrom_cons] at hm ⊢
    exact ⟨h.trans hm.1, hm.2⟩

/-- Below its first address a canonical list reads as unlisted. -/
theorem lookup_below {lo a : Nat} {m : Memory} (hm : wfFrom lo m = true) (h : a < lo) : lookup m a = unlisted := by
  cases m with
  | nil => rfl
  | cons c m =>
    obtain ⟨b, w⟩ := c
    rw [wfFrom_cons] at hm
    simp [lookup, h.trans_le hm.1]

/-- A cell put before a canonical list keeps the form. -/
theorem cell_append_wf {a : Nat} {v : Byte} {m : Memory} (ha : a < memSize) (hm : wfFrom (a + 1) m = true) :
    wfFrom a (cell a v ++ m) = true := by
  unfold cell
  split
  · exact wfFrom_mono (Nat.le_succ a) hm
  · exact wfFrom_cons.2 ⟨le_refl a, ha, ‹_›, hm⟩

/-- Reading through a cell put before a canonical list. -/
theorem lookup_cell_append {a c : Nat} {v : Byte} {m : Memory} (hm : wfFrom (a + 1) m = true) :
    lookup (cell a v ++ m) c = if c = a then v else if c < a then unlisted else lookup m c := by
  unfold cell
  split
  · subst_vars
    rcases Nat.lt_trichotomy c a with h | h | h
    · simp [h, lookup_below hm (by omega : c < a + 1), h.ne]
    · simp [h, lookup_below hm (by omega : a < a + 1)]
    · simp [h.ne', h.not_gt]
  · rcases Nat.lt_trichotomy c a with h | h | h
    · simp [lookup, h, h.ne]
    · simp [lookup, h]
    · simp [lookup, h.ne', h.not_gt]

/-- `put` keeps the canonical form. -/
theorem put_wf {m : Memory} {lo a : Nat} {v : Byte} (hm : wfFrom lo m = true) (hlo : lo ≤ a) (ha : a < memSize) :
    wfFrom lo (put m a v) = true := by
  induction m generalizing lo with
  | nil => simpa [put] using wfFrom_mono hlo (cell_append_wf (v := v) (m := []) ha rfl)
  | cons c m ih =>
    obtain ⟨b, w⟩ := c
    have h := wfFrom_cons.1 hm
    simp only [put]
    split
    · exact wfFrom_mono hlo (cell_append_wf ha (wfFrom_cons.2 ⟨‹_›, h.2⟩))
    · split
      · subst_vars
        exact wfFrom_mono hlo (cell_append_wf ha h.2.2.2)
      · exact wfFrom_cons.2 ⟨h.1, h.2.1, h.2.2.1, ih h.2.2.2 (by omega)⟩

/-- What every address reads as after `put`. -/
theorem lookup_put {m : Memory} {lo a c : Nat} {v : Byte} (hm : wfFrom lo m = true) :
    lookup (put m a v) c = if c = a then v else lookup m c := by
  induction m generalizing lo with
  | nil =>
    have := lookup_cell_append (a := a) (c := c) (v := v) (m := []) rfl
    simp only [List.append_nil] at this
    simp only [put, this, lookup, ite_self]
  | cons cl m ih =>
    obtain ⟨b, w⟩ := cl
    have h := wfFrom_cons.1 hm
    simp only [put]
    split
    · rename_i hab
      rw [lookup_cell_append (wfFrom_cons.2 ⟨hab, h.2⟩)]
      split
      · rfl
      · split
        · simp [lookup, (by omega : c < b)]
        · rfl
    · split
      · subst_vars
        rw [lookup_cell_append h.2.2.2]
        split
        · rfl
        · simp [lookup, *]
      · simp only [lookup, ih h.2.2.2]
        split_ifs <;> first | rfl | omega

/-- A write keeps the canonical form. -/
theorem Memory.write_wf {m : Memory} (a : Nat) (v : Byte) (hm : m.wf = true) : (m.write a v).wf = true :=
  put_wf hm (Nat.zero_le _) (mod_memSize_lt a)

/-- What every address reads as after a write. -/
theorem Memory.read_write {m : Memory} (a c : Nat) (v : Byte) (hm : m.wf = true) :
    (m.write a v).read c = if c % memSize = a % memSize then v else m.read c :=
  lookup_put hm

/-- What every 16-bit address reads as after a write to one. -/
theorem Memory.read_write_word {m : Memory} (a c : Word) (v : Byte) (hm : m.wf = true) :
    (m.write a.toNat v).read c.toNat = if c = a then v else m.read c.toNat := by
  simp only [Memory.read_write _ _ _ hm, word_mod_memSize, BitVec.toNat_inj]

/-- A read after a write to the same address gives the byte written. -/
theorem Memory.read_write_same {m : Memory} (a : Nat) (v : Byte) (hm : m.wf = true) : (m.write a v).read a = v := by
  simp [Memory.read_write a a v hm]

/-- A write leaves every other address alone. -/
theorem Memory.read_write_other {m : Memory} {a c : Nat} (v : Byte) (hm : m.wf = true)
    (h : c % memSize ≠ a % memSize) : (m.write a v).read c = m.read c := by
  simp [Memory.read_write a c v hm, h]

/-- An image makes a memory in the canonical form. -/
theorem imageFrom_wf (a : Nat) (image : List Byte) : wfFrom a (imageFrom a image) = true := by
  induction image generalizing a with
  | nil => rfl
  | cons v image ih =>
    simp only [imageFrom]
    split
    · exact cell_append_wf ‹_› (ih (a + 1))
    · rfl

/-- A loader's image makes a memory in the canonical form. -/
theorem Memory.ofImage_wf (image : List Byte) : (Memory.ofImage image).wf = true := imageFrom_wf 0 image

end Sys2Proof.Machine
end

