-- ==== Sys2Proof/Laws/State.lean ====
section
/-!
SUPPORT. One lemma per field per update of the state, each true by rfl, so that no proof unfolds a record update.
-/

namespace Sys2Proof.Machine

variable (s : State)

@[simp] theorem State.setA_a (v : Byte) : (s.setA v).a = v := rfl
@[simp] theorem State.setA_x (v : Byte) : (s.setA v).x = s.x := rfl
@[simp] theorem State.setA_y (v : Byte) : (s.setA v).y = s.y := rfl
@[simp] theorem State.setA_sp (v : Byte) : (s.setA v).sp = s.sp := rfl
@[simp] theorem State.setA_pc (v : Byte) : (s.setA v).pc = s.pc := rfl
@[simp] theorem State.setA_flags (v : Byte) : (s.setA v).flags = s.flags := rfl
@[simp] theorem State.setA_mem (v : Byte) : (s.setA v).mem = s.mem := rfl
@[simp] theorem State.setA_params (v : Byte) : (s.setA v).params = s.params := rfl

@[simp] theorem State.setX_a (v : Byte) : (s.setX v).a = s.a := rfl
@[simp] theorem State.setX_x (v : Byte) : (s.setX v).x = v := rfl
@[simp] theorem State.setX_y (v : Byte) : (s.setX v).y = s.y := rfl
@[simp] theorem State.setX_sp (v : Byte) : (s.setX v).sp = s.sp := rfl
@[simp] theorem State.setX_pc (v : Byte) : (s.setX v).pc = s.pc := rfl
@[simp] theorem State.setX_flags (v : Byte) : (s.setX v).flags = s.flags := rfl
@[simp] theorem State.setX_mem (v : Byte) : (s.setX v).mem = s.mem := rfl
@[simp] theorem State.setX_params (v : Byte) : (s.setX v).params = s.params := rfl

@[simp] theorem State.setY_a (v : Byte) : (s.setY v).a = s.a := rfl
@[simp] theorem State.setY_x (v : Byte) : (s.setY v).x = s.x := rfl
@[simp] theorem State.setY_y (v : Byte) : (s.setY v).y = v := rfl
@[simp] theorem State.setY_sp (v : Byte) : (s.setY v).sp = s.sp := rfl
@[simp] theorem State.setY_pc (v : Byte) : (s.setY v).pc = s.pc := rfl
@[simp] theorem State.setY_flags (v : Byte) : (s.setY v).flags = s.flags := rfl
@[simp] theorem State.setY_mem (v : Byte) : (s.setY v).mem = s.mem := rfl
@[simp] theorem State.setY_params (v : Byte) : (s.setY v).params = s.params := rfl

@[simp] theorem State.setSp_a (v : Byte) : (s.setSp v).a = s.a := rfl
@[simp] theorem State.setSp_x (v : Byte) : (s.setSp v).x = s.x := rfl
@[simp] theorem State.setSp_y (v : Byte) : (s.setSp v).y = s.y := rfl
@[simp] theorem State.setSp_sp (v : Byte) : (s.setSp v).sp = v := rfl
@[simp] theorem State.setSp_pc (v : Byte) : (s.setSp v).pc = s.pc := rfl
@[simp] theorem State.setSp_flags (v : Byte) : (s.setSp v).flags = s.flags := rfl
@[simp] theorem State.setSp_mem (v : Byte) : (s.setSp v).mem = s.mem := rfl
@[simp] theorem State.setSp_params (v : Byte) : (s.setSp v).params = s.params := rfl

@[simp] theorem State.setPc_a (w : Word) : (s.setPc w).a = s.a := rfl
@[simp] theorem State.setPc_x (w : Word) : (s.setPc w).x = s.x := rfl
@[simp] theorem State.setPc_y (w : Word) : (s.setPc w).y = s.y := rfl
@[simp] theorem State.setPc_sp (w : Word) : (s.setPc w).sp = s.sp := rfl
@[simp] theorem State.setPc_pc (w : Word) : (s.setPc w).pc = w := rfl
@[simp] theorem State.setPc_flags (w : Word) : (s.setPc w).flags = s.flags := rfl
@[simp] theorem State.setPc_mem (w : Word) : (s.setPc w).mem = s.mem := rfl
@[simp] theorem State.setPc_params (w : Word) : (s.setPc w).params = s.params := rfl

@[simp] theorem State.setFlags_a (f : Flags) : (s.setFlags f).a = s.a := rfl
@[simp] theorem State.setFlags_x (f : Flags) : (s.setFlags f).x = s.x := rfl
@[simp] theorem State.setFlags_y (f : Flags) : (s.setFlags f).y = s.y := rfl
@[simp] theorem State.setFlags_sp (f : Flags) : (s.setFlags f).sp = s.sp := rfl
@[simp] theorem State.setFlags_pc (f : Flags) : (s.setFlags f).pc = s.pc := rfl
@[simp] theorem State.setFlags_flags (f : Flags) : (s.setFlags f).flags = f := rfl
@[simp] theorem State.setFlags_mem (f : Flags) : (s.setFlags f).mem = s.mem := rfl
@[simp] theorem State.setFlags_params (f : Flags) : (s.setFlags f).params = s.params := rfl

@[simp] theorem State.write_a (a : Word) (v : Byte) : (s.write a v).a = s.a := rfl
@[simp] theorem State.write_x (a : Word) (v : Byte) : (s.write a v).x = s.x := rfl
@[simp] theorem State.write_y (a : Word) (v : Byte) : (s.write a v).y = s.y := rfl
@[simp] theorem State.write_sp (a : Word) (v : Byte) : (s.write a v).sp = s.sp := rfl
@[simp] theorem State.write_pc (a : Word) (v : Byte) : (s.write a v).pc = s.pc := rfl
@[simp] theorem State.write_flags (a : Word) (v : Byte) : (s.write a v).flags = s.flags := rfl
@[simp] theorem State.write_mem (a : Word) (v : Byte) : (s.write a v).mem = s.mem.write a.toNat v := rfl
@[simp] theorem State.write_params (a : Word) (v : Byte) : (s.write a v).params = s.params := rfl

@[simp] theorem State.updateNz_a (v : Byte) : (s.updateNz v).a = s.a := rfl
@[simp] theorem State.updateNz_x (v : Byte) : (s.updateNz v).x = s.x := rfl
@[simp] theorem State.updateNz_y (v : Byte) : (s.updateNz v).y = s.y := rfl
@[simp] theorem State.updateNz_sp (v : Byte) : (s.updateNz v).sp = s.sp := rfl
@[simp] theorem State.updateNz_pc (v : Byte) : (s.updateNz v).pc = s.pc := rfl
@[simp] theorem State.updateNz_flags (v : Byte) : (s.updateNz v).flags = s.flags.updateNz v := rfl
@[simp] theorem State.updateNz_mem (v : Byte) : (s.updateNz v).mem = s.mem := rfl
@[simp] theorem State.updateNz_params (v : Byte) : (s.updateNz v).params = s.params := rfl

@[simp] theorem State.init_a : s.init.a = s.a := rfl
@[simp] theorem State.init_x : s.init.x = s.x := rfl
@[simp] theorem State.init_y : s.init.y = s.y := rfl
@[simp] theorem State.init_sp : s.init.sp = s.sp := rfl
@[simp] theorem State.init_flags : s.init.flags = s.flags := rfl
@[simp] theorem State.init_mem : s.init.mem = s.mem := rfl
@[simp] theorem State.init_params : s.init.params = s.params := rfl
@[simp] theorem State.init_pc : s.init.pc = s.mem.read16 resetVector := rfl

variable (f : Flags) (v : Byte)

@[simp] theorem Flags.updateNz_n : (f.updateNz v).n = v.getLsbD 7 := rfl
@[simp] theorem Flags.updateNz_v : (f.updateNz v).v = f.v := rfl
@[simp] theorem Flags.updateNz_b : (f.updateNz v).b = f.b := rfl
@[simp] theorem Flags.updateNz_d : (f.updateNz v).d = f.d := rfl
@[simp] theorem Flags.updateNz_i : (f.updateNz v).i = f.i := rfl
@[simp] theorem Flags.updateNz_z : (f.updateNz v).z = (v == 0) := rfl
@[simp] theorem Flags.updateNz_c : (f.updateNz v).c = f.c := rfl

end Sys2Proof.Machine
end

