-- ==== Sys2Proof/Laws/Ops.lean ====
section
/-!
SUPPORT. One lemma per shared operation that says once everything it can do.
-/

namespace Sys2Proof.Machine

variable (s : State)

/-- A byte written reads back, and every other byte is as before. -/
theorem State.read_write (a c : Word) (v : Byte) (hm : s.mem.wf = true) :
    (s.write a v).read c = if c = a then v else s.read c := by
  simp only [State.read, State.write_mem, Memory.read_write _ _ _ hm, word_mod_memSize, BitVec.toNat_inj]

/-- A machine write keeps the canonical form. -/
theorem State.write_wf (a : Word) (v : Byte) (hm : s.mem.wf = true) : (s.write a v).mem.wf = true :=
  Memory.write_wf _ _ hm

/-- All that a push does: one byte stored at the stack address, SP decremented. -/
theorem State.push_eq (v : Byte) :
    s.push v = { s with mem := s.mem.write (stackAddr s.sp).toNat v, sp := s.sp - 1 } := rfl

/-- All that a pull does: SP incremented, the byte at the new stack address answered. -/
theorem State.pull_eq : s.pull = (s.read (stackAddr (s.sp + 1)), { s with sp := s.sp + 1 }) := rfl

/-- All that pushing a word does: its high byte at the stack address, its low byte below it, SP down by two. -/
theorem State.pushWord_eq (w : Word) :
    s.pushWord w =
      { s with
        mem := (s.mem.write (stackAddr s.sp).toNat (hi8 w)).write (stackAddr (s.sp - 1)).toNat (lo8 w)
        sp := s.sp - 1 - 1 } := rfl

/-- All that pulling a word does: the low byte first, SP up by two. -/
theorem State.pullWord_eq :
    s.pullWord =
      (word (s.read (stackAddr (s.sp + 1))) (s.read (stackAddr (s.sp + 1 + 1))), { s with sp := s.sp + 1 + 1 }) := rfl

/-- Two stack addresses are one only where the stack pointers are. -/
theorem stackAddr_inj {p q : Byte} : stackAddr p = stackAddr q ↔ p = q := by
  constructor
  · intro h
    have h' := congrArg BitVec.toNat h
    simp [stackAddr, zext] at h'
    exact BitVec.eq_of_toNat_eq (by omega)
  · exact congrArg stackAddr

/-- The memory a break leaves: the return address, high byte first, then the packed flags with B = 1. -/
theorem State.enterBreak_mem :
    s.enterBreak.mem =
      ((s.mem.write (stackAddr s.sp).toNat (hi8 (s.pc + 2))).write (stackAddr (s.sp - 1)).toNat
        (lo8 (s.pc + 2))).write (stackAddr (s.sp - 1 - 1)).toNat (s.flags.pack ||| 0x10) := rfl

/-- All that entering a break does beside the memory it leaves: SP down by three, I set, PC from the break vector. -/
theorem State.enterBreak_eq :
    s.enterBreak =
      { s with
        mem := s.enterBreak.mem
        sp := s.sp - 1 - 1 - 1
        flags := { s.flags with i := true }
        pc := s.enterBreak.mem.read16 breakVector } := rfl

/-- All that leaving a break does: the flags, then PC, from the three bytes above SP. -/
theorem State.leaveBreak_eq :
    s.leaveBreak =
      { s with
        sp := s.sp + 1 + 1 + 1
        flags := Flags.unpack (s.read (stackAddr (s.sp + 1)))
        pc := word (s.read (stackAddr (s.sp + 1 + 1))) (s.read (stackAddr (s.sp + 1 + 1 + 1))) } := rfl

/-- A push keeps the canonical form. -/
theorem State.push_wf (v : Byte) (hm : s.mem.wf = true) : (s.push v).mem.wf = true := Memory.write_wf _ _ hm

/-- Pushing a word keeps the canonical form. -/
theorem State.pushWord_wf (w : Word) (hm : s.mem.wf = true) : (s.pushWord w).mem.wf = true :=
  State.push_wf _ _ (State.push_wf _ _ hm)

/-- Entering a break keeps the canonical form. -/
theorem State.enterBreak_wf (hm : s.mem.wf = true) : s.enterBreak.mem.wf = true :=
  State.push_wf _ _ (State.pushWord_wf _ _ hm)

/-- Leaving a break changes no byte of memory. -/
@[simp] theorem State.leaveBreak_mem : s.leaveBreak.mem = s.mem := rfl

/-- A location written keeps the canonical form. -/
theorem State.writeLoc_wf (loc : Loc) (v : Byte) (hm : s.mem.wf = true) : (s.writeLoc loc v).mem.wf = true := by
  cases loc with
  | regA => exact hm
  | mem a => exact Memory.write_wf _ _ hm

/-- Loading an image makes the canonical form. -/
theorem State.load_wf (image : List Byte) : (s.load image).mem.wf = true := Memory.ofImage_wf image

/-- All that the end of a step can answer when it answers a next state. -/
theorem finish_next {op : Byte} {len : Word} {t : State} {h : Handled} :
    finish op len s h = .next t ↔ (∃ u, h = .advance u ∧ t = u.setPc (s.pc + len)) ∨ h = .jumped t := by
  cases h <;> simp [finish, eq_comm]

/-- The end of a step refuses only what its handler refused. -/
theorem finish_refused {op : Byte} {len : Word} {r : Refusal} {h : Handled} :
    finish op len s h = .refused r ↔ h = .unmodelledDecimal ∧ r = .unmodelledDecimal s.pc op := by
  cases h <;> simp [finish, eq_comm]

/-- The end of a step never faults. -/
theorem finish_not_fault {op : Byte} {len : Word} {f : Fault} {h : Handled} : finish op len s h ≠ .fault f := by
  cases h <;> simp [finish]

/-- A step that answers a next state ran the instruction at PC. -/
theorem step_next {t : State} (h : step s = .next t) : ∃ i, fetchInstr s = some i ∧ exec i s = .next t := by
  unfold step at h
  split at h
  · cases h
  · exact ⟨_, ‹_›, h⟩

end Sys2Proof.Machine
end

