-- ==== Sys2Proof/Laws/Exec.lean ====
section
/-!
SUPPORT. What exec does with every instruction, once: it runs the instruction's handler on the resolved operand and ends
the step with the opcode and the length of the encoding. A proof about all instructions cites `exec_eq` and then takes
`handled` apart, which names no row's own meaning.
-/

namespace Sys2Proof.Machine

/-- What the handler of an instruction returns on its resolved operand. -/
def handled (i : Instr) (s : State) : Handled :=
  match i with
  | .ldaImm b1 => handleLda b1 s
  | .ldaZp b1 => handleLda (s.read (zeroPage b1)) s
  | .ldaZpx b1 => handleLda (s.read (zeroPageX b1 s)) s
  | .ldaAbs w => handleLda (s.read (absolute w)) s
  | .ldaAbx w => handleLda (s.read (absoluteX w s)) s
  | .ldaAby w => handleLda (s.read (absoluteY w s)) s
  | .ldaIzx b1 => handleLda (s.read (indexedIndirectX b1 s)) s
  | .ldaIzy b1 => handleLda (s.read (indirectIndexedY b1 s)) s
  | .ldxImm b1 => handleLdx b1 s
  | .ldxZp b1 => handleLdx (s.read (zeroPage b1)) s
  | .ldxZpy b1 => handleLdx (s.read (zeroPageY b1 s)) s
  | .ldxAbs w => handleLdx (s.read (absolute w)) s
  | .ldxAby w => handleLdx (s.read (absoluteY w s)) s
  | .ldyImm b1 => handleLdy b1 s
  | .ldyZp b1 => handleLdy (s.read (zeroPage b1)) s
  | .ldyZpx b1 => handleLdy (s.read (zeroPageX b1 s)) s
  | .ldyAbs w => handleLdy (s.read (absolute w)) s
  | .ldyAbx w => handleLdy (s.read (absoluteX w s)) s
  | .staZp b1 => handleSta (zeroPage b1) s
  | .staZpx b1 => handleSta (zeroPageX b1 s) s
  | .staAbs w => handleSta (absolute w) s
  | .staAbx w => handleSta (absoluteX w s) s
  | .staAby w => handleSta (absoluteY w s) s
  | .staIzx b1 => handleSta (indexedIndirectX b1 s) s
  | .staIzy b1 => handleSta (indirectIndexedY b1 s) s
  | .stxZp b1 => handleStx (zeroPage b1) s
  | .stxZpy b1 => handleStx (zeroPageY b1 s) s
  | .stxAbs w => handleStx (absolute w) s
  | .styZp b1 => handleSty (zeroPage b1) s
  | .styZpx b1 => handleSty (zeroPageX b1 s) s
  | .styAbs w => handleSty (absolute w) s
  | .tax => handleTax s
  | .tay => handleTay s
  | .tsx => handleTsx s
  | .txa => handleTxa s
  | .tya => handleTya s
  | .txs => handleTxs s
  | .pha => handlePha s
  | .php => handlePhp s
  | .pla => handlePla s
  | .plp => handlePlp s
  | .aslAcc => handleAsl .regA s
  | .aslZp b1 => handleAsl (.mem (zeroPage b1)) s
  | .aslZpx b1 => handleAsl (.mem (zeroPageX b1 s)) s
  | .aslAbs w => handleAsl (.mem (absolute w)) s
  | .aslAbx w => handleAsl (.mem (absoluteX w s)) s
  | .lsrAcc => handleLsr .regA s
  | .lsrZp b1 => handleLsr (.mem (zeroPage b1)) s
  | .lsrZpx b1 => handleLsr (.mem (zeroPageX b1 s)) s
  | .lsrAbs w => handleLsr (.mem (absolute w)) s
  | .lsrAbx w => handleLsr (.mem (absoluteX w s)) s
  | .rolAcc => handleRol .regA s
  | .rolZp b1 => handleRol (.mem (zeroPage b1)) s
  | .rolZpx b1 => handleRol (.mem (zeroPageX b1 s)) s
  | .rolAbs w => handleRol (.mem (absolute w)) s
  | .rolAbx w => handleRol (.mem (absoluteX w s)) s
  | .rorAcc => handleRor .regA s
  | .rorZp b1 => handleRor (.mem (zeroPage b1)) s
  | .rorZpx b1 => handleRor (.mem (zeroPageX b1 s)) s
  | .rorAbs w => handleRor (.mem (absolute w)) s
  | .rorAbx w => handleRor (.mem (absoluteX w s)) s
  | .adcImm b1 => handleAdc b1 s
  | .adcZp b1 => handleAdc (s.read (zeroPage b1)) s
  | .adcZpx b1 => handleAdc (s.read (zeroPageX b1 s)) s
  | .adcAbs w => handleAdc (s.read (absolute w)) s
  | .adcAbx w => handleAdc (s.read (absoluteX w s)) s
  | .adcAby w => handleAdc (s.read (absoluteY w s)) s
  | .adcIzx b1 => handleAdc (s.read (indexedIndirectX b1 s)) s
  | .adcIzy b1 => handleAdc (s.read (indirectIndexedY b1 s)) s
  | .sbcImm b1 => handleSbc b1 s
  | .sbcZp b1 => handleSbc (s.read (zeroPage b1)) s
  | .sbcZpx b1 => handleSbc (s.read (zeroPageX b1 s)) s
  | .sbcAbs w => handleSbc (s.read (absolute w)) s
  | .sbcAbx w => handleSbc (s.read (absoluteX w s)) s
  | .sbcAby w => handleSbc (s.read (absoluteY w s)) s
  | .sbcIzx b1 => handleSbc (s.read (indexedIndirectX b1 s)) s
  | .sbcIzy b1 => handleSbc (s.read (indirectIndexedY b1 s)) s
  | .andImm b1 => handleAnd b1 s
  | .andZp b1 => handleAnd (s.read (zeroPage b1)) s
  | .andZpx b1 => handleAnd (s.read (zeroPageX b1 s)) s
  | .andAbs w => handleAnd (s.read (absolute w)) s
  | .andAbx w => handleAnd (s.read (absoluteX w s)) s
  | .andAby w => handleAnd (s.read (absoluteY w s)) s
  | .andIzx b1 => handleAnd (s.read (indexedIndirectX b1 s)) s
  | .andIzy b1 => handleAnd (s.read (indirectIndexedY b1 s)) s
  | .oraImm b1 => handleOra b1 s
  | .oraZp b1 => handleOra (s.read (zeroPage b1)) s
  | .oraZpx b1 => handleOra (s.read (zeroPageX b1 s)) s
  | .oraAbs w => handleOra (s.read (absolute w)) s
  | .oraAbx w => handleOra (s.read (absoluteX w s)) s
  | .oraAby w => handleOra (s.read (absoluteY w s)) s
  | .oraIzx b1 => handleOra (s.read (indexedIndirectX b1 s)) s
  | .oraIzy b1 => handleOra (s.read (indirectIndexedY b1 s)) s
  | .eorImm b1 => handleEor b1 s
  | .eorZp b1 => handleEor (s.read (zeroPage b1)) s
  | .eorZpx b1 => handleEor (s.read (zeroPageX b1 s)) s
  | .eorAbs w => handleEor (s.read (absolute w)) s
  | .eorAbx w => handleEor (s.read (absoluteX w s)) s
  | .eorAby w => handleEor (s.read (absoluteY w s)) s
  | .eorIzx b1 => handleEor (s.read (indexedIndirectX b1 s)) s
  | .eorIzy b1 => handleEor (s.read (indirectIndexedY b1 s)) s
  | .cmpImm b1 => handleCmp b1 s
  | .cmpZp b1 => handleCmp (s.read (zeroPage b1)) s
  | .cmpZpx b1 => handleCmp (s.read (zeroPageX b1 s)) s
  | .cmpAbs w => handleCmp (s.read (absolute w)) s
  | .cmpAbx w => handleCmp (s.read (absoluteX w s)) s
  | .cmpAby w => handleCmp (s.read (absoluteY w s)) s
  | .cmpIzx b1 => handleCmp (s.read (indexedIndirectX b1 s)) s
  | .cmpIzy b1 => handleCmp (s.read (indirectIndexedY b1 s)) s
  | .cpxImm b1 => handleCpx b1 s
  | .cpxZp b1 => handleCpx (s.read (zeroPage b1)) s
  | .cpxAbs w => handleCpx (s.read (absolute w)) s
  | .cpyImm b1 => handleCpy b1 s
  | .cpyZp b1 => handleCpy (s.read (zeroPage b1)) s
  | .cpyAbs w => handleCpy (s.read (absolute w)) s
  | .bitZp b1 => handleBit (s.read (zeroPage b1)) s
  | .bitAbs w => handleBit (s.read (absolute w)) s
  | .incZp b1 => handleInc (zeroPage b1) s
  | .incZpx b1 => handleInc (zeroPageX b1 s) s
  | .incAbs w => handleInc (absolute w) s
  | .incAbx w => handleInc (absoluteX w s) s
  | .decZp b1 => handleDec (zeroPage b1) s
  | .decZpx b1 => handleDec (zeroPageX b1 s) s
  | .decAbs w => handleDec (absolute w) s
  | .decAbx w => handleDec (absoluteX w s) s
  | .inx => handleInx s
  | .iny => handleIny s
  | .dex => handleDex s
  | .dey => handleDey s
  | .bpl b1 => handleBpl (relative b1 s) s
  | .bmi b1 => handleBmi (relative b1 s) s
  | .bvc b1 => handleBvc (relative b1 s) s
  | .bvs b1 => handleBvs (relative b1 s) s
  | .bcc b1 => handleBcc (relative b1 s) s
  | .bcs b1 => handleBcs (relative b1 s) s
  | .bne b1 => handleBne (relative b1 s) s
  | .beq b1 => handleBeq (relative b1 s) s
  | .jmpAbs w => handleJmp (absolute w) s
  | .jmpInd w => handleJmp (indirect w s) s
  | .jsr w => handleJsr (absolute w) s
  | .rts => handleRts s
  | .brk _ => handleBrk s
  | .rti => handleRti s
  | .clc => handleClc s
  | .sec => handleSec s
  | .cli => handleCli s
  | .sei => handleSei s
  | .clv => handleClv s
  | .cld => handleCld s
  | .sed => handleSed s
  | .nop => handleNop s

/-- The opcode byte of an instruction. -/
def opcodeOf (i : Instr) : Byte := (encode i).headD 0

theorem exec_eq (i : Instr) (s : State) :
    exec i s = finish (opcodeOf i) (BitVec.ofNat 16 i.length) s (handled i s) := by
  cases i <;> rfl

/-- All that an instruction can do when it answers a next state. -/
theorem exec_next {i : Instr} {s t : State} :
    exec i s = .next t ↔
      (∃ u, handled i s = .advance u ∧ t = u.setPc (s.pc + BitVec.ofNat 16 i.length)) ∨ handled i s = .jumped t := by
  rw [exec_eq, finish_next]

/-- All that an instruction refuses. -/
theorem exec_refused {i : Instr} {s : State} {r : Refusal} :
    exec i s = .refused r ↔ handled i s = .unmodelledDecimal ∧ r = .unmodelledDecimal s.pc (opcodeOf i) := by
  rw [exec_eq, finish_refused]

/-- No instruction faults. -/
theorem exec_not_fault (i : Instr) (s : State) (f : Fault) : exec i s ≠ .fault f := by
  rw [exec_eq]
  exact finish_not_fault s

/-- A branch either jumps to its target or goes on unchanged. -/
theorem branch_eq (c : Bool) (t : Word) (s : State) :
    branch c t s = if c then .jumped (s.setPc t) else .advance s := rfl

/-- The decimal gate passes what it is given unless D = 1 under `REFUSE`. -/
theorem decimalGate_eq (s : State) (h : Handled) :
    decimalGate s h = if s.flags.d = true ∧ s.params.decimalMode = .refuse then .unmodelledDecimal else h := by
  simp [decimalGate]

/-- All that a shift or rotate does, on A or on a memory byte. -/
theorem shiftLoc_eq (op : Byte → Bool → Byte × Bool) (loc : Loc) (s : State) :
    shiftLoc op loc s =
      .advance { s.writeLoc loc (op (s.readLoc loc) s.flags.c).1 with
        flags := Flags.updateNz { s.flags with c := (op (s.readLoc loc) s.flags.c).2 }
          (op (s.readLoc loc) s.flags.c).1 } := by
  cases loc <;> rfl

end Sys2Proof.Machine
end

