-- ==== Sys2Proof/Laws/Flags.lean ====
section
/-!
SUPPORT. What the flag computations of addition, subtraction and comparison say of their operands.
-/

namespace Sys2Proof.Machine

/-- Masking with 0x80 tests bit 7. -/
theorem mask80_ne_zero : ∀ x : Byte, (x &&& 0x80 != 0) = x.msb := by decide

/-- Signed overflow: both operands have one sign and the result the other. -/
theorem overflow_eq (a m r : Byte) : overflow a m r = ((a.msb != r.msb) && (m.msb != r.msb)) := by
  rw [overflow, mask80_ne_zero]
  simp [BitVec.msb_and, BitVec.msb_xor]

/-- A difference is zero exactly for equal operands. -/
theorem sub_beq_zero (a b : Byte) : (a - b == 0) = (a == b) := by
  rw [Bool.eq_iff_iff, beq_iff_eq, beq_iff_eq]
  constructor <;> intro h <;> bv_omega

/-- The flags of a comparison, each by its meaning. -/
theorem Flags.afterCompare_eq (f : Flags) (reg m : Byte) :
    f.afterCompare reg m =
      { f with c := decide (m.toNat ≤ reg.toNat), z := reg == m, n := (reg - m).getLsbD 7 } := by
  simp only [Flags.afterCompare, Flags.updateNz, sub_beq_zero]

/-- The flags of an addition, each by its meaning. -/
theorem Flags.afterAdd_eq (f : Flags) (a m : Byte) :
    f.afterAdd a m =
      let r : Byte := BitVec.ofNat 8 (exactSum a m f.c)
      { f with
        n := r.getLsbD 7, z := r == 0, c := decide (255 < exactSum a m f.c),
        v := (a.msb != r.msb) && (m.msb != r.msb) } := by
  simp only [Flags.afterAdd, Flags.updateNz, carryOut, overflow_eq, gt_iff_lt]

end Sys2Proof.Machine
end

