-- ==== Sys2Proof/Laws/PerInstr.lean ====
section
/-!
SUPPORT. Statements made of every instruction, one lemma per constructor.
-/

namespace Sys2Proof.Laws.TableRow

/-- The instruction has a row: its encoding starts with the row's opcode, the whole table finds that row by the opcode, and
the row has the instruction's profile and length (30_encoding.md R56, R57, R62, R63; 40_dispatch.md R74). -/
def Statement (i : Instr) : Prop :=
  ∃ r rest, encode i = r.opcode :: rest ∧ lookupOpcode .full r.opcode = some r ∧
    r.profile = i.mnemonic.profile ∧ r.form.length = i.length

theorem ldaImm (b1 : Byte) : Statement (.ldaImm b1) := ⟨core2 0xA9 .ldaImm, _, rfl, rfl, rfl, rfl⟩
theorem ldaZp (b1 : Byte) : Statement (.ldaZp b1) := ⟨core2 0xA5 .ldaZp, _, rfl, rfl, rfl, rfl⟩
theorem ldaZpx (b1 : Byte) : Statement (.ldaZpx b1) := ⟨core2 0xB5 .ldaZpx, _, rfl, rfl, rfl, rfl⟩
theorem ldaAbs (w : Word) : Statement (.ldaAbs w) := ⟨core3 0xAD .ldaAbs, _, rfl, rfl, rfl, rfl⟩
theorem ldaAbx (w : Word) : Statement (.ldaAbx w) := ⟨core3 0xBD .ldaAbx, _, rfl, rfl, rfl, rfl⟩
theorem ldaAby (w : Word) : Statement (.ldaAby w) := ⟨core3 0xB9 .ldaAby, _, rfl, rfl, rfl, rfl⟩
theorem ldaIzx (b1 : Byte) : Statement (.ldaIzx b1) := ⟨core2 0xA1 .ldaIzx, _, rfl, rfl, rfl, rfl⟩
theorem ldaIzy (b1 : Byte) : Statement (.ldaIzy b1) := ⟨core2 0xB1 .ldaIzy, _, rfl, rfl, rfl, rfl⟩
theorem ldxImm (b1 : Byte) : Statement (.ldxImm b1) := ⟨core2 0xA2 .ldxImm, _, rfl, rfl, rfl, rfl⟩
theorem ldxZp (b1 : Byte) : Statement (.ldxZp b1) := ⟨core2 0xA6 .ldxZp, _, rfl, rfl, rfl, rfl⟩
theorem ldxZpy (b1 : Byte) : Statement (.ldxZpy b1) := ⟨core2 0xB6 .ldxZpy, _, rfl, rfl, rfl, rfl⟩
theorem ldxAbs (w : Word) : Statement (.ldxAbs w) := ⟨core3 0xAE .ldxAbs, _, rfl, rfl, rfl, rfl⟩
theorem ldxAby (w : Word) : Statement (.ldxAby w) := ⟨core3 0xBE .ldxAby, _, rfl, rfl, rfl, rfl⟩
theorem ldyImm (b1 : Byte) : Statement (.ldyImm b1) := ⟨core2 0xA0 .ldyImm, _, rfl, rfl, rfl, rfl⟩
theorem ldyZp (b1 : Byte) : Statement (.ldyZp b1) := ⟨core2 0xA4 .ldyZp, _, rfl, rfl, rfl, rfl⟩
theorem ldyZpx (b1 : Byte) : Statement (.ldyZpx b1) := ⟨core2 0xB4 .ldyZpx, _, rfl, rfl, rfl, rfl⟩
theorem ldyAbs (w : Word) : Statement (.ldyAbs w) := ⟨core3 0xAC .ldyAbs, _, rfl, rfl, rfl, rfl⟩
theorem ldyAbx (w : Word) : Statement (.ldyAbx w) := ⟨core3 0xBC .ldyAbx, _, rfl, rfl, rfl, rfl⟩
theorem staZp (b1 : Byte) : Statement (.staZp b1) := ⟨core2 0x85 .staZp, _, rfl, rfl, rfl, rfl⟩
theorem staZpx (b1 : Byte) : Statement (.staZpx b1) := ⟨core2 0x95 .staZpx, _, rfl, rfl, rfl, rfl⟩
theorem staAbs (w : Word) : Statement (.staAbs w) := ⟨core3 0x8D .staAbs, _, rfl, rfl, rfl, rfl⟩
theorem staAbx (w : Word) : Statement (.staAbx w) := ⟨core3 0x9D .staAbx, _, rfl, rfl, rfl, rfl⟩
theorem staAby (w : Word) : Statement (.staAby w) := ⟨core3 0x99 .staAby, _, rfl, rfl, rfl, rfl⟩
theorem staIzx (b1 : Byte) : Statement (.staIzx b1) := ⟨core2 0x81 .staIzx, _, rfl, rfl, rfl, rfl⟩
theorem staIzy (b1 : Byte) : Statement (.staIzy b1) := ⟨core2 0x91 .staIzy, _, rfl, rfl, rfl, rfl⟩
theorem stxZp (b1 : Byte) : Statement (.stxZp b1) := ⟨core2 0x86 .stxZp, _, rfl, rfl, rfl, rfl⟩
theorem stxZpy (b1 : Byte) : Statement (.stxZpy b1) := ⟨core2 0x96 .stxZpy, _, rfl, rfl, rfl, rfl⟩
theorem stxAbs (w : Word) : Statement (.stxAbs w) := ⟨core3 0x8E .stxAbs, _, rfl, rfl, rfl, rfl⟩
theorem styZp (b1 : Byte) : Statement (.styZp b1) := ⟨core2 0x84 .styZp, _, rfl, rfl, rfl, rfl⟩
theorem styZpx (b1 : Byte) : Statement (.styZpx b1) := ⟨core2 0x94 .styZpx, _, rfl, rfl, rfl, rfl⟩
theorem styAbs (w : Word) : Statement (.styAbs w) := ⟨core3 0x8C .styAbs, _, rfl, rfl, rfl, rfl⟩
theorem tax : Statement .tax := ⟨core1 0xAA .tax, _, rfl, rfl, rfl, rfl⟩
theorem tay : Statement .tay := ⟨core1 0xA8 .tay, _, rfl, rfl, rfl, rfl⟩
theorem tsx : Statement .tsx := ⟨core1 0xBA .tsx, _, rfl, rfl, rfl, rfl⟩
theorem txa : Statement .txa := ⟨core1 0x8A .txa, _, rfl, rfl, rfl, rfl⟩
theorem tya : Statement .tya := ⟨core1 0x98 .tya, _, rfl, rfl, rfl, rfl⟩
theorem txs : Statement .txs := ⟨core1 0x9A .txs, _, rfl, rfl, rfl, rfl⟩
theorem pha : Statement .pha := ⟨core1 0x48 .pha, _, rfl, rfl, rfl, rfl⟩
theorem php : Statement .php := ⟨core1 0x08 .php, _, rfl, rfl, rfl, rfl⟩
theorem pla : Statement .pla := ⟨core1 0x68 .pla, _, rfl, rfl, rfl, rfl⟩
theorem plp : Statement .plp := ⟨core1 0x28 .plp, _, rfl, rfl, rfl, rfl⟩
theorem aslAcc : Statement .aslAcc := ⟨core1 0x0A .aslAcc, _, rfl, rfl, rfl, rfl⟩
theorem aslZp (b1 : Byte) : Statement (.aslZp b1) := ⟨core2 0x06 .aslZp, _, rfl, rfl, rfl, rfl⟩
theorem aslZpx (b1 : Byte) : Statement (.aslZpx b1) := ⟨core2 0x16 .aslZpx, _, rfl, rfl, rfl, rfl⟩
theorem aslAbs (w : Word) : Statement (.aslAbs w) := ⟨core3 0x0E .aslAbs, _, rfl, rfl, rfl, rfl⟩
theorem aslAbx (w : Word) : Statement (.aslAbx w) := ⟨core3 0x1E .aslAbx, _, rfl, rfl, rfl, rfl⟩
theorem lsrAcc : Statement .lsrAcc := ⟨core1 0x4A .lsrAcc, _, rfl, rfl, rfl, rfl⟩
theorem lsrZp (b1 : Byte) : Statement (.lsrZp b1) := ⟨core2 0x46 .lsrZp, _, rfl, rfl, rfl, rfl⟩
theorem lsrZpx (b1 : Byte) : Statement (.lsrZpx b1) := ⟨core2 0x56 .lsrZpx, _, rfl, rfl, rfl, rfl⟩
theorem lsrAbs (w : Word) : Statement (.lsrAbs w) := ⟨core3 0x4E .lsrAbs, _, rfl, rfl, rfl, rfl⟩
theorem lsrAbx (w : Word) : Statement (.lsrAbx w) := ⟨core3 0x5E .lsrAbx, _, rfl, rfl, rfl, rfl⟩
theorem rolAcc : Statement .rolAcc := ⟨core1 0x2A .rolAcc, _, rfl, rfl, rfl, rfl⟩
theorem rolZp (b1 : Byte) : Statement (.rolZp b1) := ⟨core2 0x26 .rolZp, _, rfl, rfl, rfl, rfl⟩
theorem rolZpx (b1 : Byte) : Statement (.rolZpx b1) := ⟨core2 0x36 .rolZpx, _, rfl, rfl, rfl, rfl⟩
theorem rolAbs (w : Word) : Statement (.rolAbs w) := ⟨core3 0x2E .rolAbs, _, rfl, rfl, rfl, rfl⟩
theorem rolAbx (w : Word) : Statement (.rolAbx w) := ⟨core3 0x3E .rolAbx, _, rfl, rfl, rfl, rfl⟩
theorem rorAcc : Statement .rorAcc := ⟨core1 0x6A .rorAcc, _, rfl, rfl, rfl, rfl⟩
theorem rorZp (b1 : Byte) : Statement (.rorZp b1) := ⟨core2 0x66 .rorZp, _, rfl, rfl, rfl, rfl⟩
theorem rorZpx (b1 : Byte) : Statement (.rorZpx b1) := ⟨core2 0x76 .rorZpx, _, rfl, rfl, rfl, rfl⟩
theorem rorAbs (w : Word) : Statement (.rorAbs w) := ⟨core3 0x6E .rorAbs, _, rfl, rfl, rfl, rfl⟩
theorem rorAbx (w : Word) : Statement (.rorAbx w) := ⟨core3 0x7E .rorAbx, _, rfl, rfl, rfl, rfl⟩
theorem adcImm (b1 : Byte) : Statement (.adcImm b1) := ⟨full2 0x69 .adcImm, _, rfl, rfl, rfl, rfl⟩
theorem adcZp (b1 : Byte) : Statement (.adcZp b1) := ⟨full2 0x65 .adcZp, _, rfl, rfl, rfl, rfl⟩
theorem adcZpx (b1 : Byte) : Statement (.adcZpx b1) := ⟨full2 0x75 .adcZpx, _, rfl, rfl, rfl, rfl⟩
theorem adcAbs (w : Word) : Statement (.adcAbs w) := ⟨full3 0x6D .adcAbs, _, rfl, rfl, rfl, rfl⟩
theorem adcAbx (w : Word) : Statement (.adcAbx w) := ⟨full3 0x7D .adcAbx, _, rfl, rfl, rfl, rfl⟩
theorem adcAby (w : Word) : Statement (.adcAby w) := ⟨full3 0x79 .adcAby, _, rfl, rfl, rfl, rfl⟩
theorem adcIzx (b1 : Byte) : Statement (.adcIzx b1) := ⟨full2 0x61 .adcIzx, _, rfl, rfl, rfl, rfl⟩
theorem adcIzy (b1 : Byte) : Statement (.adcIzy b1) := ⟨full2 0x71 .adcIzy, _, rfl, rfl, rfl, rfl⟩
theorem sbcImm (b1 : Byte) : Statement (.sbcImm b1) := ⟨full2 0xE9 .sbcImm, _, rfl, rfl, rfl, rfl⟩
theorem sbcZp (b1 : Byte) : Statement (.sbcZp b1) := ⟨full2 0xE5 .sbcZp, _, rfl, rfl, rfl, rfl⟩
theorem sbcZpx (b1 : Byte) : Statement (.sbcZpx b1) := ⟨full2 0xF5 .sbcZpx, _, rfl, rfl, rfl, rfl⟩
theorem sbcAbs (w : Word) : Statement (.sbcAbs w) := ⟨full3 0xED .sbcAbs, _, rfl, rfl, rfl, rfl⟩
theorem sbcAbx (w : Word) : Statement (.sbcAbx w) := ⟨full3 0xFD .sbcAbx, _, rfl, rfl, rfl, rfl⟩
theorem sbcAby (w : Word) : Statement (.sbcAby w) := ⟨full3 0xF9 .sbcAby, _, rfl, rfl, rfl, rfl⟩
theorem sbcIzx (b1 : Byte) : Statement (.sbcIzx b1) := ⟨full2 0xE1 .sbcIzx, _, rfl, rfl, rfl, rfl⟩
theorem sbcIzy (b1 : Byte) : Statement (.sbcIzy b1) := ⟨full2 0xF1 .sbcIzy, _, rfl, rfl, rfl, rfl⟩
theorem andImm (b1 : Byte) : Statement (.andImm b1) := ⟨full2 0x29 .andImm, _, rfl, rfl, rfl, rfl⟩
theorem andZp (b1 : Byte) : Statement (.andZp b1) := ⟨full2 0x25 .andZp, _, rfl, rfl, rfl, rfl⟩
theorem andZpx (b1 : Byte) : Statement (.andZpx b1) := ⟨full2 0x35 .andZpx, _, rfl, rfl, rfl, rfl⟩
theorem andAbs (w : Word) : Statement (.andAbs w) := ⟨full3 0x2D .andAbs, _, rfl, rfl, rfl, rfl⟩
theorem andAbx (w : Word) : Statement (.andAbx w) := ⟨full3 0x3D .andAbx, _, rfl, rfl, rfl, rfl⟩
theorem andAby (w : Word) : Statement (.andAby w) := ⟨full3 0x39 .andAby, _, rfl, rfl, rfl, rfl⟩
theorem andIzx (b1 : Byte) : Statement (.andIzx b1) := ⟨full2 0x21 .andIzx, _, rfl, rfl, rfl, rfl⟩
theorem andIzy (b1 : Byte) : Statement (.andIzy b1) := ⟨full2 0x31 .andIzy, _, rfl, rfl, rfl, rfl⟩
theorem oraImm (b1 : Byte) : Statement (.oraImm b1) := ⟨full2 0x09 .oraImm, _, rfl, rfl, rfl, rfl⟩
theorem oraZp (b1 : Byte) : Statement (.oraZp b1) := ⟨full2 0x05 .oraZp, _, rfl, rfl, rfl, rfl⟩
theorem oraZpx (b1 : Byte) : Statement (.oraZpx b1) := ⟨full2 0x15 .oraZpx, _, rfl, rfl, rfl, rfl⟩
theorem oraAbs (w : Word) : Statement (.oraAbs w) := ⟨full3 0x0D .oraAbs, _, rfl, rfl, rfl, rfl⟩
theorem oraAbx (w : Word) : Statement (.oraAbx w) := ⟨full3 0x1D .oraAbx, _, rfl, rfl, rfl, rfl⟩
theorem oraAby (w : Word) : Statement (.oraAby w) := ⟨full3 0x19 .oraAby, _, rfl, rfl, rfl, rfl⟩
theorem oraIzx (b1 : Byte) : Statement (.oraIzx b1) := ⟨full2 0x01 .oraIzx, _, rfl, rfl, rfl, rfl⟩
theorem oraIzy (b1 : Byte) : Statement (.oraIzy b1) := ⟨full2 0x11 .oraIzy, _, rfl, rfl, rfl, rfl⟩
theorem eorImm (b1 : Byte) : Statement (.eorImm b1) := ⟨full2 0x49 .eorImm, _, rfl, rfl, rfl, rfl⟩
theorem eorZp (b1 : Byte) : Statement (.eorZp b1) := ⟨full2 0x45 .eorZp, _, rfl, rfl, rfl, rfl⟩
theorem eorZpx (b1 : Byte) : Statement (.eorZpx b1) := ⟨full2 0x55 .eorZpx, _, rfl, rfl, rfl, rfl⟩
theorem eorAbs (w : Word) : Statement (.eorAbs w) := ⟨full3 0x4D .eorAbs, _, rfl, rfl, rfl, rfl⟩
theorem eorAbx (w : Word) : Statement (.eorAbx w) := ⟨full3 0x5D .eorAbx, _, rfl, rfl, rfl, rfl⟩
theorem eorAby (w : Word) : Statement (.eorAby w) := ⟨full3 0x59 .eorAby, _, rfl, rfl, rfl, rfl⟩
theorem eorIzx (b1 : Byte) : Statement (.eorIzx b1) := ⟨full2 0x41 .eorIzx, _, rfl, rfl, rfl, rfl⟩
theorem eorIzy (b1 : Byte) : Statement (.eorIzy b1) := ⟨full2 0x51 .eorIzy, _, rfl, rfl, rfl, rfl⟩
theorem cmpImm (b1 : Byte) : Statement (.cmpImm b1) := ⟨full2 0xC9 .cmpImm, _, rfl, rfl, rfl, rfl⟩
theorem cmpZp (b1 : Byte) : Statement (.cmpZp b1) := ⟨full2 0xC5 .cmpZp, _, rfl, rfl, rfl, rfl⟩
theorem cmpZpx (b1 : Byte) : Statement (.cmpZpx b1) := ⟨full2 0xD5 .cmpZpx, _, rfl, rfl, rfl, rfl⟩
theorem cmpAbs (w : Word) : Statement (.cmpAbs w) := ⟨full3 0xCD .cmpAbs, _, rfl, rfl, rfl, rfl⟩
theorem cmpAbx (w : Word) : Statement (.cmpAbx w) := ⟨full3 0xDD .cmpAbx, _, rfl, rfl, rfl, rfl⟩
theorem cmpAby (w : Word) : Statement (.cmpAby w) := ⟨full3 0xD9 .cmpAby, _, rfl, rfl, rfl, rfl⟩
theorem cmpIzx (b1 : Byte) : Statement (.cmpIzx b1) := ⟨full2 0xC1 .cmpIzx, _, rfl, rfl, rfl, rfl⟩
theorem cmpIzy (b1 : Byte) : Statement (.cmpIzy b1) := ⟨full2 0xD1 .cmpIzy, _, rfl, rfl, rfl, rfl⟩
theorem cpxImm (b1 : Byte) : Statement (.cpxImm b1) := ⟨full2 0xE0 .cpxImm, _, rfl, rfl, rfl, rfl⟩
theorem cpxZp (b1 : Byte) : Statement (.cpxZp b1) := ⟨full2 0xE4 .cpxZp, _, rfl, rfl, rfl, rfl⟩
theorem cpxAbs (w : Word) : Statement (.cpxAbs w) := ⟨full3 0xEC .cpxAbs, _, rfl, rfl, rfl, rfl⟩
theorem cpyImm (b1 : Byte) : Statement (.cpyImm b1) := ⟨full2 0xC0 .cpyImm, _, rfl, rfl, rfl, rfl⟩
theorem cpyZp (b1 : Byte) : Statement (.cpyZp b1) := ⟨full2 0xC4 .cpyZp, _, rfl, rfl, rfl, rfl⟩
theorem cpyAbs (w : Word) : Statement (.cpyAbs w) := ⟨full3 0xCC .cpyAbs, _, rfl, rfl, rfl, rfl⟩
theorem bitZp (b1 : Byte) : Statement (.bitZp b1) := ⟨full2 0x24 .bitZp, _, rfl, rfl, rfl, rfl⟩
theorem bitAbs (w : Word) : Statement (.bitAbs w) := ⟨full3 0x2C .bitAbs, _, rfl, rfl, rfl, rfl⟩
theorem incZp (b1 : Byte) : Statement (.incZp b1) := ⟨full2 0xE6 .incZp, _, rfl, rfl, rfl, rfl⟩
theorem incZpx (b1 : Byte) : Statement (.incZpx b1) := ⟨full2 0xF6 .incZpx, _, rfl, rfl, rfl, rfl⟩
theorem incAbs (w : Word) : Statement (.incAbs w) := ⟨full3 0xEE .incAbs, _, rfl, rfl, rfl, rfl⟩
theorem incAbx (w : Word) : Statement (.incAbx w) := ⟨full3 0xFE .incAbx, _, rfl, rfl, rfl, rfl⟩
theorem decZp (b1 : Byte) : Statement (.decZp b1) := ⟨full2 0xC6 .decZp, _, rfl, rfl, rfl, rfl⟩
theorem decZpx (b1 : Byte) : Statement (.decZpx b1) := ⟨full2 0xD6 .decZpx, _, rfl, rfl, rfl, rfl⟩
theorem decAbs (w : Word) : Statement (.decAbs w) := ⟨full3 0xCE .decAbs, _, rfl, rfl, rfl, rfl⟩
theorem decAbx (w : Word) : Statement (.decAbx w) := ⟨full3 0xDE .decAbx, _, rfl, rfl, rfl, rfl⟩
theorem inx : Statement .inx := ⟨full1 0xE8 .inx, _, rfl, rfl, rfl, rfl⟩
theorem iny : Statement .iny := ⟨full1 0xC8 .iny, _, rfl, rfl, rfl, rfl⟩
theorem dex : Statement .dex := ⟨full1 0xCA .dex, _, rfl, rfl, rfl, rfl⟩
theorem dey : Statement .dey := ⟨full1 0x88 .dey, _, rfl, rfl, rfl, rfl⟩
theorem bpl (b1 : Byte) : Statement (.bpl b1) := ⟨full2 0x10 .bpl, _, rfl, rfl, rfl, rfl⟩
theorem bmi (b1 : Byte) : Statement (.bmi b1) := ⟨full2 0x30 .bmi, _, rfl, rfl, rfl, rfl⟩
theorem bvc (b1 : Byte) : Statement (.bvc b1) := ⟨full2 0x50 .bvc, _, rfl, rfl, rfl, rfl⟩
theorem bvs (b1 : Byte) : Statement (.bvs b1) := ⟨full2 0x70 .bvs, _, rfl, rfl, rfl, rfl⟩
theorem bcc (b1 : Byte) : Statement (.bcc b1) := ⟨full2 0x90 .bcc, _, rfl, rfl, rfl, rfl⟩
theorem bcs (b1 : Byte) : Statement (.bcs b1) := ⟨full2 0xB0 .bcs, _, rfl, rfl, rfl, rfl⟩
theorem bne (b1 : Byte) : Statement (.bne b1) := ⟨full2 0xD0 .bne, _, rfl, rfl, rfl, rfl⟩
theorem beq (b1 : Byte) : Statement (.beq b1) := ⟨full2 0xF0 .beq, _, rfl, rfl, rfl, rfl⟩
theorem jmpAbs (w : Word) : Statement (.jmpAbs w) := ⟨full3 0x4C .jmpAbs, _, rfl, rfl, rfl, rfl⟩
theorem jmpInd (w : Word) : Statement (.jmpInd w) := ⟨full3 0x6C .jmpInd, _, rfl, rfl, rfl, rfl⟩
theorem jsr (w : Word) : Statement (.jsr w) := ⟨full3 0x20 .jsr, _, rfl, rfl, rfl, rfl⟩
theorem rts : Statement .rts := ⟨full1 0x60 .rts, _, rfl, rfl, rfl, rfl⟩
theorem brk (b1 : Byte) : Statement (.brk b1) := ⟨full2 0x00 .brk, _, rfl, rfl, rfl, rfl⟩
theorem rti : Statement .rti := ⟨full1 0x40 .rti, _, rfl, rfl, rfl, rfl⟩
theorem clc : Statement .clc := ⟨full1 0x18 .clc, _, rfl, rfl, rfl, rfl⟩
theorem sec : Statement .sec := ⟨full1 0x38 .sec, _, rfl, rfl, rfl, rfl⟩
theorem cli : Statement .cli := ⟨full1 0x58 .cli, _, rfl, rfl, rfl, rfl⟩
theorem sei : Statement .sei := ⟨full1 0x78 .sei, _, rfl, rfl, rfl, rfl⟩
theorem clv : Statement .clv := ⟨full1 0xB8 .clv, _, rfl, rfl, rfl, rfl⟩
theorem cld : Statement .cld := ⟨full1 0xD8 .cld, _, rfl, rfl, rfl, rfl⟩
theorem sed : Statement .sed := ⟨full1 0xF8 .sed, _, rfl, rfl, rfl, rfl⟩
theorem nop : Statement .nop := ⟨full1 0xEA .nop, _, rfl, rfl, rfl, rfl⟩

end Sys2Proof.Laws.TableRow
end

