-- ==== Sys2Proof/Laws/Stores.lean ====
section
/-!
SUPPORT. What every instruction does to memory, once: the bytes at the addresses `storedTo` lists are written, one after
the other, and nothing else is.
-/

namespace Sys2Proof.Machine

/-- `m` is the memory of `s` with one byte written at each address of the list, in order. -/
inductive Stores (s : State) : List Word → Memory → Prop
  | none : Stores s [] s.mem
  | one (a : Word) (v : Byte) : Stores s [a] (s.mem.write a.toNat v)
  | two (a b : Word) (v w : Byte) : Stores s [a, b] ((s.mem.write a.toNat v).write b.toNat w)
  | three (a b c : Word) (v w x : Byte) :
      Stores s [a, b, c] (((s.mem.write a.toNat v).write b.toNat w).write c.toNat x)

/-- The state a handler returns, where it returns one. -/
def Handled.state? : Handled → Option State
  | .advance t => some t
  | .jumped t => some t
  | .unmodelledDecimal => none

/-- The state of every handler's answer has the bytes of `storedTo` written. -/
def HandledStores (i : Instr) : Prop :=
  ∀ s t : State, (handled i s).state? = some t → Stores s (storedTo i s) t.mem

theorem handledStores_of_eq {i : Instr} (f : State → State) (h : ∀ s, (handled i s).state? = some (f s))
    (w : ∀ s, Stores s (storedTo i s) (f s).mem) : HandledStores i := by
  intro s t ht
  rw [h, Option.some.injEq] at ht
  exact ht ▸ w s

theorem handledStores_of_add {i : Instr} (m : State → Byte)
    (h : ∀ s, handled i s = decimalGate s (.advance (s.addToA (m s)))) (w : ∀ s, storedTo i s = []) :
    HandledStores i := by
  intro s t ht
  rw [h, decimalGate_eq] at ht
  rw [w]
  split at ht <;> cases ht
  exact .none

theorem handledStores_of_branch {i : Instr} (c : State → Bool) (target : State → Word)
    (h : ∀ s, handled i s = branch (c s) (target s) s) (w : ∀ s, storedTo i s = []) : HandledStores i := by
  intro s t ht
  rw [h, branch_eq] at ht
  rw [w]
  split at ht <;> cases ht <;> exact .none

theorem handledStores_brk (b1 : Byte) : HandledStores (.brk b1) := by
  intro s t ht
  cases ht
  rw [State.enterBreak_mem]
  show Stores s [stackAddr s.sp, stackAddr (s.sp - 1), stackAddr (s.sp - 2)] _
  have h : s.sp - 1 - 1 = s.sp - 2 := BitVec.sub_sub _ _ _
  rw [h]
  exact .three _ _ _ _ _ _

/-- Every instruction's handler stores exactly what `storedTo` lists. -/
theorem handledStores (i : Instr) : HandledStores i := by
  cases i
  case brk b1 => exact handledStores_brk b1
  case jsr w => exact handledStores_of_eq _ (fun _ => rfl) fun _ => .two _ _ _ _
  all_goals first
    | exact handledStores_of_eq _ (fun _ => rfl) fun _ => .none
    | exact handledStores_of_eq _ (fun _ => rfl) fun _ => .one _ _
    | exact handledStores_of_add _ (fun _ => rfl) fun _ => rfl
    | exact handledStores_of_branch _ _ (fun _ => rfl) fun _ => rfl

/-- A next state of exec has the bytes of `storedTo` written and no others. -/
theorem exec_stores {i : Instr} {s t : State} (h : exec i s = .next t) : Stores s (storedTo i s) t.mem := by
  rcases exec_next.1 h with ⟨u, h', rfl⟩ | h'
  · exact handledStores i s u (by rw [h']; rfl)
  · exact handledStores i s t (by rw [h']; rfl)

end Sys2Proof.Machine
end

