-- ==== Sys2Proof/Tests/Slice0.lean ====
section
/-!
SUPPORT. The model's own tests. The words and the expected states are those of the spec: the opcode table
(30_encoding.md R62, R63) and the derived vectors of 95_test_vectors.md, cited by their identifiers. A test
`test_witness_…` shows a state and operands that meet the hypotheses of the obligation it names.
-/

namespace Sys2Proof.Tests

open Sys2Proof.Machine

set_option Elab.async false

/-- The default configuration, profile CORE. -/
def core : Params := Params.default

/-- The default configuration with profile FULL. -/
def full : Params := { Params.default with profile := .full }

/-- The memory that holds the listed bytes. -/
def cells (m : Memory) : List (Word × Byte) → Memory
  | [] => m
  | (a, v) :: rest => cells (m.write a.toNat v) rest

/-- The memory `m` with a byte string from address `a` on, wrapping at the top. -/
def place (m : Memory) : Word → List Byte → Memory
  | _, [] => m
  | a, v :: rest => place (m.write a.toNat v) (a + 1) rest

/-- A vector's start state: the bytes at PC, the listed memory bytes, everything else 0. -/
def start (p : Params) (pc : Word) (code : List Byte) (bytes : List (Word × Byte)) : State :=
  { a := 0, x := 0, y := 0, sp := 0, pc := pc, flags := Flags.clear, mem := cells (place [] pc code) bytes,
    params := p }

/-- The step answers exactly this next state. -/
def stepsTo (s t : State) : Bool :=
  match step s with
  | .next u => u == t
  | _ => false

/-- The step faults with this fault. -/
def faultsWith (s : State) (f : Fault) : Bool :=
  match step s with
  | .fault g => g == f
  | _ => false

/-- The step refuses with this refusal. -/
def refusesWith (s : State) (r : Refusal) : Bool :=
  match step s with
  | .refused q => q == r
  | _ => false

/-- The instruction answers a next state. -/
def completes (i : Instr) (s : State) : Bool :=
  match exec i s with
  | .next _ => true
  | _ => false

/-! The word of every row, its operand bytes written out: byte 0 the opcode, then b1 or lo hi (30_encoding.md R56, R57,
R60). -/

/-- The words of LDA, LDX, LDY, the first with every bit written out (R62, R63). -/
theorem test_decode_loads :
    decodeTableWord 16 0b1001011010101001 = some (.ldaImm 0x96) ∧
    decodeTableWord 16 0x96A5 = some (.ldaZp 0x96) ∧
    decodeTableWord 16 0x96B5 = some (.ldaZpx 0x96) ∧
    decodeTableWord 24 0x1F80AD = some (.ldaAbs 0x1F80) ∧
    decodeTableWord 24 0x1F80BD = some (.ldaAbx 0x1F80) ∧
    decodeTableWord 24 0x1F80B9 = some (.ldaAby 0x1F80) ∧
    decodeTableWord 16 0x96A1 = some (.ldaIzx 0x96) ∧
    decodeTableWord 16 0x96B1 = some (.ldaIzy 0x96) ∧
    decodeTableWord 16 0x96A2 = some (.ldxImm 0x96) ∧
    decodeTableWord 16 0x96A6 = some (.ldxZp 0x96) ∧
    decodeTableWord 16 0x96B6 = some (.ldxZpy 0x96) ∧
    decodeTableWord 24 0x1F80AE = some (.ldxAbs 0x1F80) ∧
    decodeTableWord 24 0x1F80BE = some (.ldxAby 0x1F80) ∧
    decodeTableWord 16 0x96A0 = some (.ldyImm 0x96) ∧
    decodeTableWord 16 0x96A4 = some (.ldyZp 0x96) ∧
    decodeTableWord 16 0x96B4 = some (.ldyZpx 0x96) ∧
    decodeTableWord 24 0x1F80AC = some (.ldyAbs 0x1F80) ∧
    decodeTableWord 24 0x1F80BC = some (.ldyAbx 0x1F80) := by
  decide +kernel

/-- The words of STA, STX, STY, the first with every bit written out (R62, R63). -/
theorem test_decode_stores :
    decodeTableWord 16 0b1001011010000101 = some (.staZp 0x96) ∧
    decodeTableWord 16 0x9695 = some (.staZpx 0x96) ∧
    decodeTableWord 24 0x1F808D = some (.staAbs 0x1F80) ∧
    decodeTableWord 24 0x1F809D = some (.staAbx 0x1F80) ∧
    decodeTableWord 24 0x1F8099 = some (.staAby 0x1F80) ∧
    decodeTableWord 16 0x9681 = some (.staIzx 0x96) ∧
    decodeTableWord 16 0x9691 = some (.staIzy 0x96) ∧
    decodeTableWord 16 0x9686 = some (.stxZp 0x96) ∧
    decodeTableWord 16 0x9696 = some (.stxZpy 0x96) ∧
    decodeTableWord 24 0x1F808E = some (.stxAbs 0x1F80) ∧
    decodeTableWord 16 0x9684 = some (.styZp 0x96) ∧
    decodeTableWord 16 0x9694 = some (.styZpx 0x96) ∧
    decodeTableWord 24 0x1F808C = some (.styAbs 0x1F80) := by
  decide +kernel

/-- The words of TAX, TAY, TSX, TXA, TYA, TXS, PHA, PHP, PLA, PLP, the first with every bit written out (R62, R63). -/
theorem test_decode_transfers_and_stack :
    decodeTableWord 8 0b10101010 = some .tax ∧
    decodeTableWord 8 0xA8 = some .tay ∧
    decodeTableWord 8 0xBA = some .tsx ∧
    decodeTableWord 8 0x8A = some .txa ∧
    decodeTableWord 8 0x98 = some .tya ∧
    decodeTableWord 8 0x9A = some .txs ∧
    decodeTableWord 8 0x48 = some .pha ∧
    decodeTableWord 8 0x08 = some .php ∧
    decodeTableWord 8 0x68 = some .pla ∧
    decodeTableWord 8 0x28 = some .plp := by
  decide +kernel

/-- The words of ASL, LSR, ROL, ROR, the first with every bit written out (R62, R63). -/
theorem test_decode_shifts :
    decodeTableWord 8 0b00001010 = some .aslAcc ∧
    decodeTableWord 16 0x9606 = some (.aslZp 0x96) ∧
    decodeTableWord 16 0x9616 = some (.aslZpx 0x96) ∧
    decodeTableWord 24 0x1F800E = some (.aslAbs 0x1F80) ∧
    decodeTableWord 24 0x1F801E = some (.aslAbx 0x1F80) ∧
    decodeTableWord 8 0x4A = some .lsrAcc ∧
    decodeTableWord 16 0x9646 = some (.lsrZp 0x96) ∧
    decodeTableWord 16 0x9656 = some (.lsrZpx 0x96) ∧
    decodeTableWord 24 0x1F804E = some (.lsrAbs 0x1F80) ∧
    decodeTableWord 24 0x1F805E = some (.lsrAbx 0x1F80) ∧
    decodeTableWord 8 0x2A = some .rolAcc ∧
    decodeTableWord 16 0x9626 = some (.rolZp 0x96) ∧
    decodeTableWord 16 0x9636 = some (.rolZpx 0x96) ∧
    decodeTableWord 24 0x1F802E = some (.rolAbs 0x1F80) ∧
    decodeTableWord 24 0x1F803E = some (.rolAbx 0x1F80) ∧
    decodeTableWord 8 0x6A = some .rorAcc ∧
    decodeTableWord 16 0x9666 = some (.rorZp 0x96) ∧
    decodeTableWord 16 0x9676 = some (.rorZpx 0x96) ∧
    decodeTableWord 24 0x1F806E = some (.rorAbs 0x1F80) ∧
    decodeTableWord 24 0x1F807E = some (.rorAbx 0x1F80) := by
  decide +kernel

/-- The words of ADC, SBC, the first with every bit written out (R62, R63). -/
theorem test_decode_arithmetic :
    decodeTableWord 16 0b1001011001101001 = some (.adcImm 0x96) ∧
    decodeTableWord 16 0x9665 = some (.adcZp 0x96) ∧
    decodeTableWord 16 0x9675 = some (.adcZpx 0x96) ∧
    decodeTableWord 24 0x1F806D = some (.adcAbs 0x1F80) ∧
    decodeTableWord 24 0x1F807D = some (.adcAbx 0x1F80) ∧
    decodeTableWord 24 0x1F8079 = some (.adcAby 0x1F80) ∧
    decodeTableWord 16 0x9661 = some (.adcIzx 0x96) ∧
    decodeTableWord 16 0x9671 = some (.adcIzy 0x96) ∧
    decodeTableWord 16 0x96E9 = some (.sbcImm 0x96) ∧
    decodeTableWord 16 0x96E5 = some (.sbcZp 0x96) ∧
    decodeTableWord 16 0x96F5 = some (.sbcZpx 0x96) ∧
    decodeTableWord 24 0x1F80ED = some (.sbcAbs 0x1F80) ∧
    decodeTableWord 24 0x1F80FD = some (.sbcAbx 0x1F80) ∧
    decodeTableWord 24 0x1F80F9 = some (.sbcAby 0x1F80) ∧
    decodeTableWord 16 0x96E1 = some (.sbcIzx 0x96) ∧
    decodeTableWord 16 0x96F1 = some (.sbcIzy 0x96) := by
  decide +kernel

/-- The words of AND, ORA, EOR, the first with every bit written out (R62, R63). -/
theorem test_decode_logic :
    decodeTableWord 16 0b1001011000101001 = some (.andImm 0x96) ∧
    decodeTableWord 16 0x9625 = some (.andZp 0x96) ∧
    decodeTableWord 16 0x9635 = some (.andZpx 0x96) ∧
    decodeTableWord 24 0x1F802D = some (.andAbs 0x1F80) ∧
    decodeTableWord 24 0x1F803D = some (.andAbx 0x1F80) ∧
    decodeTableWord 24 0x1F8039 = some (.andAby 0x1F80) ∧
    decodeTableWord 16 0x9621 = some (.andIzx 0x96) ∧
    decodeTableWord 16 0x9631 = some (.andIzy 0x96) ∧
    decodeTableWord 16 0x9609 = some (.oraImm 0x96) ∧
    decodeTableWord 16 0x9605 = some (.oraZp 0x96) ∧
    decodeTableWord 16 0x9615 = some (.oraZpx 0x96) ∧
    decodeTableWord 24 0x1F800D = some (.oraAbs 0x1F80) ∧
    decodeTableWord 24 0x1F801D = some (.oraAbx 0x1F80) ∧
    decodeTableWord 24 0x1F8019 = some (.oraAby 0x1F80) ∧
    decodeTableWord 16 0x9601 = some (.oraIzx 0x96) ∧
    decodeTableWord 16 0x9611 = some (.oraIzy 0x96) ∧
    decodeTableWord 16 0x9649 = some (.eorImm 0x96) ∧
    decodeTableWord 16 0x9645 = some (.eorZp 0x96) ∧
    decodeTableWord 16 0x9655 = some (.eorZpx 0x96) ∧
    decodeTableWord 24 0x1F804D = some (.eorAbs 0x1F80) ∧
    decodeTableWord 24 0x1F805D = some (.eorAbx 0x1F80) ∧
    decodeTableWord 24 0x1F8059 = some (.eorAby 0x1F80) ∧
    decodeTableWord 16 0x9641 = some (.eorIzx 0x96) ∧
    decodeTableWord 16 0x9651 = some (.eorIzy 0x96) := by
  decide +kernel

/-- The words of CMP, CPX, CPY, BIT, the first with every bit written out (R62, R63). -/
theorem test_decode_compares :
    decodeTableWord 16 0b1001011011001001 = some (.cmpImm 0x96) ∧
    decodeTableWord 16 0x96C5 = some (.cmpZp 0x96) ∧
    decodeTableWord 16 0x96D5 = some (.cmpZpx 0x96) ∧
    decodeTableWord 24 0x1F80CD = some (.cmpAbs 0x1F80) ∧
    decodeTableWord 24 0x1F80DD = some (.cmpAbx 0x1F80) ∧
    decodeTableWord 24 0x1F80D9 = some (.cmpAby 0x1F80) ∧
    decodeTableWord 16 0x96C1 = some (.cmpIzx 0x96) ∧
    decodeTableWord 16 0x96D1 = some (.cmpIzy 0x96) ∧
    decodeTableWord 16 0x96E0 = some (.cpxImm 0x96) ∧
    decodeTableWord 16 0x96E4 = some (.cpxZp 0x96) ∧
    decodeTableWord 24 0x1F80EC = some (.cpxAbs 0x1F80) ∧
    decodeTableWord 16 0x96C0 = some (.cpyImm 0x96) ∧
    decodeTableWord 16 0x96C4 = some (.cpyZp 0x96) ∧
    decodeTableWord 24 0x1F80CC = some (.cpyAbs 0x1F80) ∧
    decodeTableWord 16 0x9624 = some (.bitZp 0x96) ∧
    decodeTableWord 24 0x1F802C = some (.bitAbs 0x1F80) := by
  decide +kernel

/-- The words of INC, DEC, INX, INY, DEX, DEY, the first with every bit written out (R62, R63). -/
theorem test_decode_counts :
    decodeTableWord 16 0b1001011011100110 = some (.incZp 0x96) ∧
    decodeTableWord 16 0x96F6 = some (.incZpx 0x96) ∧
    decodeTableWord 24 0x1F80EE = some (.incAbs 0x1F80) ∧
    decodeTableWord 24 0x1F80FE = some (.incAbx 0x1F80) ∧
    decodeTableWord 16 0x96C6 = some (.decZp 0x96) ∧
    decodeTableWord 16 0x96D6 = some (.decZpx 0x96) ∧
    decodeTableWord 24 0x1F80CE = some (.decAbs 0x1F80) ∧
    decodeTableWord 24 0x1F80DE = some (.decAbx 0x1F80) ∧
    decodeTableWord 8 0xE8 = some .inx ∧
    decodeTableWord 8 0xC8 = some .iny ∧
    decodeTableWord 8 0xCA = some .dex ∧
    decodeTableWord 8 0x88 = some .dey := by
  decide +kernel

/-- The words of BPL, BMI, BVC, BVS, BCC, BCS, BNE, BEQ, the first with every bit written out (R62, R63). -/
theorem test_decode_branches :
    decodeTableWord 16 0b1001011000010000 = some (.bpl 0x96) ∧
    decodeTableWord 16 0x9630 = some (.bmi 0x96) ∧
    decodeTableWord 16 0x9650 = some (.bvc 0x96) ∧
    decodeTableWord 16 0x9670 = some (.bvs 0x96) ∧
    decodeTableWord 16 0x9690 = some (.bcc 0x96) ∧
    decodeTableWord 16 0x96B0 = some (.bcs 0x96) ∧
    decodeTableWord 16 0x96D0 = some (.bne 0x96) ∧
    decodeTableWord 16 0x96F0 = some (.beq 0x96) := by
  decide +kernel

/-- The words of JMP, JSR, RTS, BRK, RTI, the first with every bit written out (R62, R63). -/
theorem test_decode_control :
    decodeTableWord 24 0b000111111000000001001100 = some (.jmpAbs 0x1F80) ∧
    decodeTableWord 24 0x1F806C = some (.jmpInd 0x1F80) ∧
    decodeTableWord 24 0x1F8020 = some (.jsr 0x1F80) ∧
    decodeTableWord 8 0x60 = some .rts ∧
    decodeTableWord 16 0x9600 = some (.brk 0x96) ∧
    decodeTableWord 8 0x40 = some .rti := by
  decide +kernel

/-- The words of CLC, SEC, CLI, SEI, CLV, CLD, SED, NOP, the first with every bit written out (R62, R63). -/
theorem test_decode_flag_instructions :
    decodeTableWord 8 0b00011000 = some .clc ∧
    decodeTableWord 8 0x38 = some .sec ∧
    decodeTableWord 8 0x58 = some .cli ∧
    decodeTableWord 8 0x78 = some .sei ∧
    decodeTableWord 8 0xB8 = some .clv ∧
    decodeTableWord 8 0xD8 = some .cld ∧
    decodeTableWord 8 0xF8 = some .sed ∧
    decodeTableWord 8 0xEA = some .nop := by
  decide +kernel

/-! One step each, from the vectors of 95_test_vectors.md. -/

/-- Vector AM2 (R85, R97). -/
theorem test_ldaZp_AM2 :
    let s := start core 0x8000 [0xA5, 0x10] [(0x0010, 0x44)]
    stepsTo s { s with a := 0x44, pc := 0x8002 } = true := by
  decide +kernel

/-- Vector AM3 (R86, R97). -/
theorem test_ldaZpx_AM3 :
    let s := { start core 0x8000 [0xB5, 0xFF] [(0x0000, 0x55), (0x0100, 0x66)] with x := 0x01 }
    stepsTo s { s with a := 0x55, pc := 0x8002 } = true := by
  decide +kernel

/-- Vector AM4 (R87, R98). -/
theorem test_ldxZpy_AM4 :
    let s := { start core 0x8000 [0xB6, 0xF0] [(0x0010, 0x99)] with y := 0x20 }
    stepsTo s { s with x := 0x99, flags := { s.flags with n := true }, pc := 0x8002 } = true := by
  decide +kernel

/-- Vector AM5 (R88, R97). -/
theorem test_ldaAbs_AM5 :
    let s := start core 0x8000 [0xAD, 0x34, 0x12] [(0x1234, 0x9C)]
    stepsTo s { s with a := 0x9C, flags := { s.flags with n := true, z := false }, pc := 0x8003 } = true := by
  decide +kernel

/-- Vector AM6 (R89, R97). -/
theorem test_ldaAbx_AM6 :
    let s := { start core 0x8000 [0xBD, 0xFF, 0xFF] [(0x0001, 0x5E)] with x := 0x02 }
    stepsTo s { s with a := 0x5E, pc := 0x8003 } = true := by
  decide +kernel

/-- Vector AM7 (R90, R97). -/
theorem test_ldaAby_AM7 :
    let s := { start core 0x8000 [0xB9, 0xF0, 0x12] [(0x1310, 0x01)] with y := 0x20 }
    stepsTo s { s with a := 0x01, pc := 0x8003 } = true := by
  decide +kernel

/-- Vector AM9b (R92, R97). -/
theorem test_ldaIzx_AM9b :
    let s := { start { core with zpPtrWrap := .zeroPage } 0x8000 [0xA1, 0xFF]
      [(0x00FF, 0x34), (0x0100, 0x12), (0x0000, 0x56), (0x1234, 0x11), (0x5634, 0x22)] with
      x := 0x00 }
    stepsTo s { s with a := 0x22, pc := 0x8002 } = true := by
  decide +kernel

/-- Vector AM12 (R93, R97). -/
theorem test_ldaIzy_AM12 :
    let s := { start core 0x8000 [0xB1, 0x40] [(0x0040, 0xFF), (0x0041, 0xFF), (0x0001, 0x3C)] with y := 0x02 }
    stepsTo s { s with a := 0x3C, pc := 0x8002 } = true := by
  decide +kernel

/-- Vector AM13b (R93, R97). -/
theorem test_ldaIzy_AM13b :
    let s := { start { core with zpPtrWrap := .zeroPage } 0x8000 [0xB1, 0xFF]
      [(0x00FF, 0x00), (0x0100, 0x20), (0x0000, 0x30), (0x2001, 0x0A), (0x3001, 0x0B)] with
      y := 0x01 }
    stepsTo s { s with a := 0x0B, pc := 0x8002 } = true := by
  decide +kernel

/-- Vector AM14 (R88, R43, R73). -/
theorem test_ldaAbs_AM14 :
    let s := start core 0xFFFE [0xAD, 0x00] [(0x0000, 0x02), (0x0200, 0x61)]
    stepsTo s { s with a := 0x61, pc := 0x0001 } = true := by
  decide +kernel

/-- Vector AM15 (R91, R145). -/
theorem test_jmpInd_AM15 :
    let s := start full 0x8000 [0x6C, 0xFF, 0x10] [(0x10FF, 0x34), (0x1000, 0x12), (0x1100, 0x56)]
    stepsTo s { s with pc := 0x1234 } = true := by
  decide +kernel

/-- Vector LS2 (R98). -/
theorem test_ldxImm_LS2 :
    let s := start core 0x8000 [0xA2, 0x00] []
    stepsTo s { s with x := 0x00, flags := { s.flags with n := false, z := true }, pc := 0x8002 } = true := by
  decide +kernel

/-- Vector LS3 (R99). -/
theorem test_ldyZpx_LS3 :
    let s := { start core 0x8000 [0xB4, 0x10] [(0x0015, 0xFF)] with x := 0x05 }
    stepsTo s { s with y := 0xFF, flags := { s.flags with n := true, z := false }, pc := 0x8002 } = true := by
  decide +kernel

/-- Vector LS4 (R98). -/
theorem test_ldxAby_LS4 :
    let s := { start core 0x8000 [0xBE, 0x00, 0x20] [(0x2001, 0x80)] with y := 0x01 }
    stepsTo s { s with x := 0x80, flags := { s.flags with n := true }, pc := 0x8003 } = true := by
  decide +kernel

/-- Vector LS5 (R100, R93). -/
theorem test_staIzy_LS5 :
    let s := { start core 0x8000 [0x91, 0x20] [(0x0020, 0x00), (0x0021, 0x03)] with
      a := 0x00, y := 0x05, flags := { Flags.clear with n := true, z := true, c := true } }
    stepsTo s { s with
      flags := { s.flags with n := true, z := true, c := true }, mem := (s.mem.write 0x0305 0x00),
      pc := 0x8002 } = true := by
  decide +kernel

/-- Vector LS6 (R101, R87). -/
theorem test_stxZpy_LS6 :
    let s := { start core 0x8000 [0x96, 0xFF] [] with x := 0xAB, y := 0x02 }
    stepsTo s { s with mem := (s.mem.write 0x0001 0xAB), pc := 0x8002 } = true := by
  decide +kernel

/-- Vector LS7 (R102, R86). -/
theorem test_styZpx_LS7 :
    let s := { start core 0x8000 [0x94, 0x10] [] with y := 0xCD, x := 0xF0 }
    stepsTo s { s with mem := (s.mem.write 0x0000 0xCD), pc := 0x8002 } = true := by
  decide +kernel

/-- Vector LS10 (R100, R89). -/
theorem test_staAbx_LS10 :
    let s := { start core 0x8000 [0x9D, 0xFF, 0xFF] [] with a := 0x11, x := 0x01 }
    stepsTo s { s with mem := ((s.mem.write 0x0000 0x11).write 0x0100 0x00), pc := 0x8003 } = true := by
  decide +kernel

/-- Vector TR1 (R103). -/
theorem test_tax_TR1 :
    let s := { start core 0x8000 [0xAA] [] with a := 0x00, x := 0x55 }
    stepsTo s { s with
      a := 0x00, x := 0x00, flags := { s.flags with n := false, z := true }, pc := 0x8001 } = true := by
  decide +kernel

/-- Vector TR2 (R104). -/
theorem test_tay_TR2 :
    let s := { start core 0x8000 [0xA8] [] with a := 0xFF }
    stepsTo s { s with y := 0xFF, flags := { s.flags with n := true, z := false }, pc := 0x8001 } = true := by
  decide +kernel

/-- Vector TR3 (R105). -/
theorem test_tsx_TR3 :
    let s := { start core 0x8000 [0xBA] [] with sp := 0x00, x := 0x12 }
    stepsTo s { s with x := 0x00, sp := 0x00, flags := { s.flags with z := true }, pc := 0x8001 } = true := by
  decide +kernel

/-- Vector TR4 (R106). -/
theorem test_txa_TR4 :
    let s := { start core 0x8000 [0x8A] [] with x := 0x80 }
    stepsTo s { s with a := 0x80, flags := { s.flags with n := true, z := false }, pc := 0x8001 } = true := by
  decide +kernel

/-- Vector TR5 (R107). -/
theorem test_tya_TR5 :
    let s := { start core 0x8000 [0x98] [] with y := 0x00, a := 0x33 }
    stepsTo s { s with a := 0x00, flags := { s.flags with z := true }, pc := 0x8001 } = true := by
  decide +kernel

/-- Vector TR6 (R108). -/
theorem test_txs_TR6 :
    let s := { start core 0x8000 [0x9A] [] with x := 0x00, flags := { Flags.clear with n := true } }
    stepsTo s { s with sp := 0x00, flags := { s.flags with n := true, z := false }, pc := 0x8001 } = true := by
  decide +kernel

/-- Vector TR7 (R108). -/
theorem test_txs_TR7 :
    let s := { start core 0x8000 [0x9A] [] with x := 0x80, flags := { Flags.clear with z := true } }
    stepsTo s { s with sp := 0x80, flags := { s.flags with n := false, z := true }, pc := 0x8001 } = true := by
  decide +kernel

/-- Vector ST1 (R112, R111). -/
theorem test_pha_ST1 :
    let s := { start core 0x8000 [0x48] [] with sp := 0x00, a := 0x42 }
    stepsTo s { s with sp := 0xFF, mem := (s.mem.write 0x0100 0x42), pc := 0x8001 } = true := by
  decide +kernel

/-- Vector ST2 (R114, R111). -/
theorem test_pla_ST2 :
    let s := { start core 0x8000 [0x68] [(0x0100, 0x80)] with sp := 0xFF }
    stepsTo s { s with
      a := 0x80, sp := 0x00, flags := { s.flags with n := true, z := false }, pc := 0x8001 } = true := by
  decide +kernel

/-- Vector ST5 (R113). -/
theorem test_php_ST5 :
    let s := { start { core with phpBBit := .stored } 0x8000 [0x08] [] with sp := 0xFF }
    stepsTo s { s with sp := 0xFE, mem := (s.mem.write 0x01FF 0x20), pc := 0x8001 } = true := by
  decide +kernel

/-- Vector ST6 (R113). -/
theorem test_php_ST6 :
    let s := { start core 0x8000 [0x08] [] with
      sp := 0xFF,
      flags := { Flags.clear with n := true, v := true, b := true, d := true, i := true, z := true, c := true } }
    stepsTo s { s with sp := 0xFE, mem := (s.mem.write 0x01FF 0xFF), pc := 0x8001 } = true := by
  decide +kernel

/-- Vector ST9 (R115, R26). -/
theorem test_plp_ST9 :
    let s := { start core 0x8000 [0x28] [(0x01FF, 0xDF)] with sp := 0xFE }
    stepsTo s { s with
      sp := 0xFF,
      flags := { s.flags with n := true, v := true, b := true, d := true, i := true, z := true, c := true },
      pc := 0x8001 } = true := by
  decide +kernel

/-- Vector ST11 (R115, R111). -/
theorem test_plp_ST11 :
    let s := { start core 0x8000 [0x28] [(0x0100, 0x02)] with sp := 0xFF }
    stepsTo s { s with sp := 0x00, flags := { s.flags with z := true, c := false }, pc := 0x8001 } = true := by
  decide +kernel

/-- Vector SH1 (R116). -/
theorem test_aslAcc_SH1 :
    let s := { start core 0x8000 [0x0A] [] with a := 0x80 }
    stepsTo s { s with
      a := 0x00, flags := { s.flags with n := false, z := true, c := true }, pc := 0x8001 } = true := by
  decide +kernel

/-- Vector SH2 (R116). -/
theorem test_aslZp_SH2 :
    let s := { start core 0x8000 [0x06, 0x10] [(0x0010, 0x40)] with flags := { Flags.clear with c := true } }
    stepsTo s { s with
      flags := { s.flags with n := true, z := false, c := false }, mem := (s.mem.write 0x0010 0x80),
      pc := 0x8002 } = true := by
  decide +kernel

/-- Vector SH3 (R116, R89). -/
theorem test_aslAbx_SH3 :
    let s := { start core 0x8000 [0x1E, 0xFF, 0xFF] [(0x0000, 0xFF)] with x := 0x01 }
    stepsTo s { s with
      flags := { s.flags with n := true, c := true }, mem := (s.mem.write 0x0000 0xFE), pc := 0x8003 } = true := by
  decide +kernel

/-- Vector SH4 (R117). -/
theorem test_lsrAcc_SH4 :
    let s := { start core 0x8000 [0x4A] [] with a := 0xFF }
    stepsTo s { s with
      a := 0x7F, flags := { s.flags with n := false, z := false, c := true }, pc := 0x8001 } = true := by
  decide +kernel

/-- Vector SH5 (R117). -/
theorem test_lsrAcc_SH5 :
    let s := { start core 0x8000 [0x4A] [] with a := 0x00, flags := { Flags.clear with c := true, n := true } }
    stepsTo s { s with
      a := 0x00, flags := { s.flags with n := false, z := true, c := false }, pc := 0x8001 } = true := by
  decide +kernel

/-- Vector SH6 (R117, R86). -/
theorem test_lsrZpx_SH6 :
    let s := { start core 0x8000 [0x56, 0xFF] [(0x0000, 0x02)] with x := 0x01 }
    stepsTo s { s with
      flags := { s.flags with c := false }, mem := (s.mem.write 0x0000 0x01), pc := 0x8002 } = true := by
  decide +kernel

/-- Vector SH7 (R118). -/
theorem test_rolAcc_SH7 :
    let s := { start core 0x8000 [0x2A] [] with a := 0x80, flags := { Flags.clear with c := true } }
    stepsTo s { s with
      a := 0x01, flags := { s.flags with n := false, z := false, c := true }, pc := 0x8001 } = true := by
  decide +kernel

/-- Vector SH8 (R118). -/
theorem test_rolAcc_SH8 :
    let s := { start core 0x8000 [0x2A] [] with a := 0x80 }
    stepsTo s { s with a := 0x00, flags := { s.flags with z := true, c := true }, pc := 0x8001 } = true := by
  decide +kernel

/-- Vector SH9 (R118, R86). -/
theorem test_rolZpx_SH9 :
    let s := { start core 0x8000 [0x36, 0xFF] [(0x0000, 0x7F)] with
      x := 0x01, flags := { Flags.clear with c := true } }
    stepsTo s { s with
      flags := { s.flags with n := true, c := false }, mem := (s.mem.write 0x0000 0xFF), pc := 0x8002 } = true := by
  decide +kernel

/-- Vector SH10 (R119). -/
theorem test_rorAcc_SH10 :
    let s := { start core 0x8000 [0x6A] [] with a := 0x00, flags := { Flags.clear with c := true } }
    stepsTo s { s with
      a := 0x80, flags := { s.flags with n := true, z := false, c := false }, pc := 0x8001 } = true := by
  decide +kernel

/-- Vector SH11 (R119). -/
theorem test_rorAcc_SH11 :
    let s := { start core 0x8000 [0x6A] [] with a := 0x01 }
    stepsTo s { s with
      a := 0x00, flags := { s.flags with n := false, z := true, c := true }, pc := 0x8001 } = true := by
  decide +kernel

/-- Vector SH12 (R119). -/
theorem test_rorZpx_SH12 :
    let s := { start core 0x8000 [0x76, 0x10] [(0x0010, 0xAA)] with x := 0x00 }
    stepsTo s { s with
      flags := { s.flags with n := false, c := false }, mem := (s.mem.write 0x0010 0x55), pc := 0x8002 } = true := by
  decide +kernel

/-- Vector DP1 (R70, R170). -/
theorem test_byteFF_DP1 :
    faultsWith ({ start core 0x8000 [0xFF] [] with a := 0x12, sp := 0x34 }) (.decodeFault 0x8000 0xFF) = true := by
  decide +kernel

/-- Vector DP4 (R73, R20). -/
theorem test_tax_DP4 :
    let s := { start core 0xFFFF [0xAA] [] with a := 0x07 }
    stepsTo s { s with x := 0x07, pc := 0x0000 } = true := by
  decide +kernel

/-- Vector DP7 (R72, R145). -/
theorem test_jmpAbs_DP7 :
    let s := start full 0x8000 [0x4C, 0x00, 0x80] []
    stepsTo s { s with pc := 0x8000 } = true := by
  decide +kernel

/-- Vector AL3 (R121). -/
theorem test_adcImm_AL3 :
    let s := { start full 0x8000 [0x69, 0xFF] [] with a := 0x80 }
    stepsTo s { s with
      a := 0x7F, flags := { s.flags with n := false, v := true, c := true }, pc := 0x8002 } = true := by
  decide +kernel

/-- Vector AL5 (R121, R120). -/
theorem test_adcImm_AL5 :
    let s := { start { full with decimalMode := .binary } 0x8000 [0x69, 0x01] [] with
      a := 0x09, flags := { Flags.clear with d := true } }
    stepsTo s { s with a := 0x0A, flags := { s.flags with d := true }, pc := 0x8002 } = true := by
  decide +kernel

/-- Vector AL7 (R122). -/
theorem test_sbcImm_AL7 :
    let s := { start full 0x8000 [0xE9, 0x01] [] with a := 0x80, flags := { Flags.clear with c := true } }
    stepsTo s { s with a := 0x7F, flags := { s.flags with v := true, c := true }, pc := 0x8002 } = true := by
  decide +kernel

/-- Vector AL8 (R122). -/
theorem test_sbcImm_AL8 :
    let s := { start full 0x8000 [0xE9, 0xFF] [] with a := 0x7F, flags := { Flags.clear with c := true } }
    stepsTo s { s with
      a := 0x80, flags := { s.flags with n := true, v := true, c := false }, pc := 0x8002 } = true := by
  decide +kernel

/-- Vector AL10 (R123). -/
theorem test_andImm_AL10 :
    let s := { start full 0x8000 [0x29, 0x55] [] with a := 0xAA }
    stepsTo s { s with a := 0x00, flags := { s.flags with n := false, z := true }, pc := 0x8002 } = true := by
  decide +kernel

/-- Vector AL11 (R124). -/
theorem test_oraZp_AL11 :
    let s := { start full 0x8000 [0x05, 0x10] [] with a := 0x00 }
    stepsTo s { s with a := 0x00, flags := { s.flags with z := true }, pc := 0x8002 } = true := by
  decide +kernel

/-- Vector AL12 (R125). -/
theorem test_eorAbx_AL12 :
    let s := { start full 0x8000 [0x5D, 0x00, 0x01] [(0x0101, 0xF0)] with a := 0x0F, x := 0x01 }
    stepsTo s { s with a := 0xFF, flags := { s.flags with n := true }, pc := 0x8003 } = true := by
  decide +kernel

/-- Vector AL13 (R126). -/
theorem test_cmpImm_AL13 :
    let s := { start full 0x8000 [0xC9, 0x7F] [] with a := 0x80 }
    stepsTo s { s with
      a := 0x80, flags := { s.flags with n := false, z := false, c := true }, pc := 0x8002 } = true := by
  decide +kernel

/-- Vector AL14 (R126). -/
theorem test_cmpImm_AL14 :
    let s := { start full 0x8000 [0xC9, 0x80] [] with a := 0x7F }
    stepsTo s { s with flags := { s.flags with n := true, z := false, c := false }, pc := 0x8002 } = true := by
  decide +kernel

/-- Vector AL15 (R127). -/
theorem test_cpxImm_AL15 :
    let s := { start full 0x8000 [0xE0, 0xFF] [] with x := 0xFF }
    stepsTo s { s with flags := { s.flags with n := false, z := true, c := true }, pc := 0x8002 } = true := by
  decide +kernel

/-- Vector AL16 (R128). -/
theorem test_cpyZp_AL16 :
    let s := { start full 0x8000 [0xC4, 0x10] [(0x0010, 0x01)] with y := 0x00 }
    stepsTo s { s with flags := { s.flags with n := true, z := false, c := false }, pc := 0x8002 } = true := by
  decide +kernel

/-- Vector AL17 (R129). -/
theorem test_bitAbs_AL17 :
    let s := { start full 0x8000 [0x2C, 0x34, 0x12] [(0x1234, 0x80)] with
      a := 0xFF, flags := { Flags.clear with c := true } }
    stepsTo s { s with
      a := 0xFF, flags := { s.flags with n := true, v := false, z := false, c := true }, pc := 0x8003 } = true := by
  decide +kernel

/-- Vector AL18 (R129). -/
theorem test_bitZp_AL18 :
    let s := { start full 0x8000 [0x24, 0x10] [(0x0010, 0xFF)] with a := 0x00 }
    stepsTo s { s with flags := { s.flags with n := true, v := true, z := true }, pc := 0x8002 } = true := by
  decide +kernel

/-- Vector AL19 (R130). -/
theorem test_incZpx_AL19 :
    let s := { start full 0x8000 [0xF6, 0xFF] [(0x0000, 0x7F)] with x := 0x01 }
    stepsTo s { s with
      flags := { s.flags with n := true, z := false }, mem := (s.mem.write 0x0000 0x80), pc := 0x8002 } = true := by
  decide +kernel

/-- Vector AL20 (R131). -/
theorem test_decZp_AL20 :
    let s := { start full 0x8000 [0xC6, 0x10] [(0x0010, 0x01)] with flags := { Flags.clear with c := true } }
    stepsTo s { s with
      flags := { s.flags with z := true, c := true }, mem := (s.mem.write 0x0010 0x00), pc := 0x8002 } = true := by
  decide +kernel

/-- Vector AL21 (R132). -/
theorem test_inx_AL21 :
    let s := { start full 0x8000 [0xE8] [] with x := 0xFF }
    stepsTo s { s with x := 0x00, flags := { s.flags with n := false, z := true }, pc := 0x8001 } = true := by
  decide +kernel

/-- Vector AL22 (R133). -/
theorem test_iny_AL22 :
    let s := { start full 0x8000 [0xC8] [] with y := 0x7F }
    stepsTo s { s with y := 0x80, flags := { s.flags with n := true }, pc := 0x8001 } = true := by
  decide +kernel

/-- Vector AL23 (R134). -/
theorem test_dex_AL23 :
    let s := { start full 0x8000 [0xCA] [] with x := 0x00 }
    stepsTo s { s with x := 0xFF, flags := { s.flags with n := true, z := false }, pc := 0x8001 } = true := by
  decide +kernel

/-- Vector AL24 (R135). -/
theorem test_dey_AL24 :
    let s := { start full 0x8000 [0x88] [] with y := 0x01 }
    stepsTo s { s with y := 0x00, flags := { s.flags with z := true }, pc := 0x8001 } = true := by
  decide +kernel

/-- Vector CT1 (R143, R136). -/
theorem test_bne_CT1 :
    let s := start full 0x8000 [0xD0, 0x05] []
    stepsTo s { s with pc := 0x8007 } = true := by
  decide +kernel

/-- Vector CT2 (R143, R136). -/
theorem test_bne_CT2 :
    let s := { start full 0x8000 [0xD0, 0x05] [] with flags := { Flags.clear with z := true } }
    stepsTo s { s with pc := 0x8002 } = true := by
  decide +kernel

/-- Vector CT3 (R144). -/
theorem test_beq_CT3 :
    let s := { start full 0x8000 [0xF0, 0xFE] [] with flags := { Flags.clear with z := true } }
    stepsTo s { s with pc := 0x8000 } = true := by
  decide +kernel

/-- Vector CT4 (R137). -/
theorem test_bpl_CT4 :
    let s := start full 0x8000 [0x10, 0x80] []
    stepsTo s { s with pc := 0x7F82 } = true := by
  decide +kernel

/-- Vector CT5 (R138). -/
theorem test_bmi_CT5 :
    let s := { start full 0x8000 [0x30, 0x7F] [] with flags := { Flags.clear with n := true } }
    stepsTo s { s with pc := 0x8081 } = true := by
  decide +kernel

/-- Vector CT6 (R139). -/
theorem test_bvc_CT6 :
    let s := { start full 0x8000 [0x50, 0x10] [] with flags := { Flags.clear with v := true } }
    stepsTo s { s with pc := 0x8002 } = true := by
  decide +kernel

/-- Vector CT7 (R140). -/
theorem test_bvs_CT7 :
    let s := { start full 0x8000 [0x70, 0x10] [] with flags := { Flags.clear with v := true } }
    stepsTo s { s with pc := 0x8012 } = true := by
  decide +kernel

/-- Vector CT8 (R141). -/
theorem test_bcc_CT8 :
    let s := start full 0xFFFD [0x90, 0x02] []
    stepsTo s { s with pc := 0x0001 } = true := by
  decide +kernel

/-- Vector CT9 (R142). -/
theorem test_bcs_CT9 :
    let s := { start full 0x0000 [0xB0, 0xFC] [] with flags := { Flags.clear with c := true } }
    stepsTo s { s with pc := 0xFFFE } = true := by
  decide +kernel

/-- Vector CT10 (R145). -/
theorem test_jmpAbs_CT10 :
    let s := start full 0x8000 [0x4C, 0x34, 0x12] []
    stepsTo s { s with pc := 0x1234 } = true := by
  decide +kernel

/-- Vector CT11 (R145, R91). -/
theorem test_jmpInd_CT11 :
    let s := start full 0x8000 [0x6C, 0x00, 0x03] [(0x0300, 0x00), (0x0301, 0x90)]
    stepsTo s { s with pc := 0x9000 } = true := by
  decide +kernel

/-- Vector CT12 (R146, R111). -/
theorem test_jsr_CT12 :
    let s := { start full 0x8000 [0x20, 0x00, 0x90] [] with sp := 0x00 }
    stepsTo s { s with sp := 0xFE, mem := ((s.mem.write 0x0100 0x80).write 0x01FF 0x02), pc := 0x9000 } = true := by
  decide +kernel

/-- Vector CT13 (R147, R111). -/
theorem test_rts_CT13 :
    let s := { start full 0x8000 [0x60] [(0x0100, 0xFF), (0x0101, 0xFF)] with sp := 0xFF }
    stepsTo s { s with sp := 0x01, pc := 0x0000 } = true := by
  decide +kernel

/-- Vector CT15 (R148). -/
theorem test_brk_CT15 :
    let s := { start full 0x8000 [0x00, 0x00] [(0xFFFE, 0x00)] with
      sp := 0xFF, flags := { Flags.clear with d := true, c := true } }
    stepsTo s { s with
      sp := 0xFC, flags := { s.flags with b := false, d := true, i := true },
      mem := (((s.mem.write 0x01FD 0x39).write 0x01FE 0x02).write 0x01FF 0x80), pc := 0x0000 } = true := by
  decide +kernel

/-- Vector CT17 (R149). -/
theorem test_rti_CT17 :
    let s := { start full 0x8000 [0x40] [(0x01FD, 0xEF), (0x01FE, 0x34), (0x01FF, 0x12)] with sp := 0xFC }
    stepsTo s { s with
      sp := 0xFF,
      flags := { s.flags with n := true, v := true, b := false, d := true, i := true, z := true, c := true },
      pc := 0x1234 } = true := by
  decide +kernel

/-- Vector FG1 (R151). -/
theorem test_clc_FG1 :
    let s := { start full 0x8000 [0x18] [] with flags := { Flags.clear with c := true } }
    stepsTo s { s with flags := { s.flags with c := false }, pc := 0x8001 } = true := by
  decide +kernel

/-- Vector FG2 (R152). -/
theorem test_sec_FG2 :
    let s := start full 0x8000 [0x38] []
    stepsTo s { s with flags := { s.flags with c := true }, pc := 0x8001 } = true := by
  decide +kernel

/-- Vector FG3 (R153). -/
theorem test_cli_FG3 :
    let s := { start full 0x8000 [0x58] [] with flags := { Flags.clear with i := true } }
    stepsTo s { s with flags := { s.flags with i := false }, pc := 0x8001 } = true := by
  decide +kernel

/-- Vector FG4 (R154). -/
theorem test_sei_FG4 :
    let s := start full 0x8000 [0x78] []
    stepsTo s { s with flags := { s.flags with i := true }, pc := 0x8001 } = true := by
  decide +kernel

/-- Vector FG5 (R155). -/
theorem test_clv_FG5 :
    let s := { start full 0x8000 [0xB8] [] with flags := { Flags.clear with v := true } }
    stepsTo s { s with flags := { s.flags with v := false }, pc := 0x8001 } = true := by
  decide +kernel

/-- Vector FG6 (R156). -/
theorem test_cld_FG6 :
    let s := { start full 0x8000 [0xD8] [] with flags := { Flags.clear with d := true } }
    stepsTo s { s with flags := { s.flags with d := false }, pc := 0x8001 } = true := by
  decide +kernel

/-- Vector FG7 (R157). -/
theorem test_sed_FG7 :
    let s := start full 0x8000 [0xF8] []
    stepsTo s { s with flags := { s.flags with d := true }, pc := 0x8001 } = true := by
  decide +kernel

/-- Vector FG8 (R158). -/
theorem test_nop_FG8 :
    let s := { start full 0x8000 [0xEA] [] with a := 0x12, flags := { Flags.clear with n := true, z := true } }
    stepsTo s { s with a := 0x12, flags := { s.flags with n := true, z := true }, pc := 0x8001 } = true := by
  decide +kernel

/-- Vector FG9 (R65). -/
theorem test_nop_FG9 :
    faultsWith (start core 0x8000 [0xEA] []) (.decodeFault 0x8000 0xEA) = true := by
  decide +kernel

/-! What a profile has, placing a word, and the launch. -/

/-- An instruction of profile FULL is ill-formed in CORE, one for each mnemonic group FULL adds (R62, R63, R65). -/
theorem test_wellFormed_refuses_full_in_core :
    [Instr.adcImm 0, .andZp 0, .cmpAbs 0, .incZp 0, .inx, .bne 0, .jmpInd 0, .brk 0, .clc, .nop].all
      (fun i => !i.wellFormed .core && i.wellFormed .full) = true := by
  decide +kernel

/-- A CORE instruction is well-formed in both profiles (R62, R63). -/
theorem test_wellFormed_accepts_core :
    [Instr.ldaIzy 0xFF, .staAbx 0xFFFF, .txs, .plp, .rorAbx 0].all
      (fun i => i.wellFormed .core && i.wellFormed .full) = true := by
  decide +kernel

/-- A byte no profile assigns has no instruction, whatever bytes follow (R64, R65). -/
theorem test_unassigned_bytes_refused :
    [0x02, 0x80, 0xEB, 0xFF].all (fun n => decodeTableWord 8 n == none) = true := by
  decide +kernel

/-- A CORE word placed at reset runs as the first instruction: LDX #$80 (R98). -/
theorem test_reset_runs_core_word :
    let s := State.reset.withFetchWord 16 0x80A2
    stepsTo s { s with x := 0x80, flags := { s.flags with n := true }, pc := 2 } = true := by
  decide +kernel

/-- A FULL word placed at reset runs as the first instruction: JMP $1234 (R145). -/
theorem test_reset_runs_full_word :
    let s := State.reset.withFetchWord 24 0x12344C
    stepsTo s { s with pc := 0x1234 } = true := by
  decide +kernel

/-- Scenario S6: 0xFFFC holds 00 80, so after init PC is 0x8000 (R190). -/
theorem test_init_S6 : (start core 0 [] [(0xFFFC, 0x00), (0xFFFD, 0x80)]).init.pc = 0x8000 := by
  decide +kernel

/-- `load` then `init`, and what inspection shows (R179, R180, R190). -/
theorem test_load_then_inspect :
    let s := (State.reset.load [0xA9, 0x37]).init
    s.inspect.pc = 0 ∧ s.inspectByte 1 = 0x37 ∧ outcomeCode (step s) = 0 := by
  decide +kernel

/-! Witnesses of the obligations' hypotheses. -/

/-- ADC #$01 with A = 7F and D clear (vector AL1). -/
def binaryAdd : State := { start full 0x8000 [0x69, 0x01] [] with a := 0x7F }

/-- ADC #$01 with D set under REFUSE (vector AL4). -/
def closedGate : State :=
  { start full 0x8000 [0x69, 0x01] [] with a := 0x09, flags := { Flags.clear with d := true } }

/-- ADC #$01 with D set under BINARY (vector AL5). -/
def openGate : State := { closedGate with params := { full with decimalMode := .binary } }

/-- The zero-page pointer bytes of vector AM9, with the pointer at 0xFE beside them. -/
def pointers (p : Params) : State :=
  start p 0x8000 [] [(0x00FE, 0x78), (0x00FF, 0x34), (0x0100, 0x12), (0x0000, 0x56)]

theorem test_witness_DecodeOfEncodeIsTheInstruction :
    Instr.wellFormed .core .tax = true ∧ (Instr.jmpInd 0xFFFF).wellFormed .full = true := by
  decide +kernel

theorem test_witness_EncodeOfDecodeIsTheBytes :
    decode .core [0xA9, 0x80, 0xEA] = .instr (.ldaImm 0x80) [0xEA] ∧
    decode .full [0x00, 0xFF] = .instr (.brk 0xFF) [] := by
  decide +kernel

theorem test_witness_CoreTableIsPartOfFull : decodeWindow .core 0xB1 0x20 0x00 = some (.ldaIzy 0x20) := by
  decide +kernel

/-- The instruction that wraps past the top of memory (vector AM14). -/
theorem test_witness_StepRunsTheDecodedInstruction :
    let s := start core 0xFFFE [0xAD, 0x00] [(0x0000, 0x02)]
    decode s.params.profile [s.read s.pc, s.read (s.pc + 1), s.read (s.pc + 2)] = .instr (.ldaAbs 0x0200) [] := by
  decide +kernel

/-- Vectors DP2 and DP3. -/
theorem test_witness_StepFaultsOnUnassignedByte :
    (lookupOpcode .core 0x69).isNone = true ∧ (lookupOpcode .full 0x02).isNone = true := by
  decide +kernel

/-- One step that faults and one that refuses. -/
theorem test_witness_StepStopsOnlyAsListed :
    faultsWith (start core 0x8000 [0x69, 0x01] []) (.decodeFault 0x8000 0x69) = true ∧
    refusesWith closedGate (.unmodelledDecimal 0x8000 0x69) = true := by
  decide +kernel

theorem test_witness_CoreProfileStepsAdvance :
    fetchInstr (start core 0xFFFF [0xAA] []) = some .tax ∧ fetchInstr (start core 0 [0x69] []) = none := by
  decide +kernel

/-- A run that faults after one step, one that refuses at once, and one that is halted. -/
theorem test_witness_RunStopsBeforeTheFirstStop :
    (run 3 (start core 0 [0xAA, 0xFF] [])).1 = .faulted (.decodeFault 1 0xFF) ∧
    (run 1 closedGate).1 = .refused (.unmodelledDecimal 0x8000 0x69) ∧
    SafeRun 2 (start core 0 [0xAA, 0xA8] []) := by
  unfold SafeRun
  decide +kernel

theorem test_witness_LaunchHoldsEveryInput :
    ({ resetLaunch with image := List.replicate 65536 0xFF } : Launch).image.length = 65536 :=
  List.length_replicate

theorem test_witness_StepKeepsTheInvariant :
    (start full 0 [0xEA] []).Inv ∧ stepsTo (start full 0 [0xEA] []) ((start full 0 [0xEA] []).setPc 1) = true := by
  unfold State.Inv
  decide +kernel

theorem test_witness_StepKeepsTheConfiguration :
    stepsTo (start full 0 [0xEA] []) ((start full 0 [0xEA] []).setPc 1) = true := by
  decide +kernel

theorem test_witness_CanonicalMemoryIsItsReads : Memory.wf [(0, 1), (65535, 0xFF)] = true ∧ Memory.wf [] = true := by
  decide +kernel

/-- The clause below 0xFF, and the two clauses at 0xFF (vectors AM9a and AM9b). -/
theorem test_witness_ZeroPagePointerByParameter :
    zeroPagePointer 0xFE (pointers core) = 0x3478 ∧
    zeroPagePointer 0xFF (pointers core) = 0x1234 ∧
    zeroPagePointer 0xFF (pointers { core with zpPtrWrap := .zeroPage }) = 0x5634 := by
  decide +kernel

/-- Index 0 meets both clauses. -/
theorem test_witness_ResolverLawsAtIndexZero : (pointers core).x = 0 ∧ (pointers core).y = 0 := by
  decide +kernel

theorem test_witness_PushesStoreThenDecrement :
    core.phpBBit = .forceOne ∧ ({ core with phpBBit := .stored } : Params).phpBBit = .stored := by
  decide +kernel

/-- Both cases of the gate's hypothesis. -/
theorem test_witness_AdcAddsWithCarry :
    binaryAdd.flags.d = false ∧ openGate.flags.d = true ∧ openGate.params.decimalMode = .binary := by
  decide +kernel

theorem test_witness_SbcSubtractsWithBorrow :
    binaryAdd.flags.d = false ∧ openGate.flags.d = true ∧ openGate.params.decimalMode = .binary :=
  test_witness_AdcAddsWithCarry

theorem test_witness_AdcOverflowIsSignedOverflow : completes (.adcImm 0x01) binaryAdd = true := by
  decide +kernel

theorem test_witness_DecimalGateRefuses :
    (Instr.adcImm 1).mnemonic ∈ [Mnemonic.adc, .sbc] ∧ (encode (.adcImm 1)).head? = some 0x69 ∧
    (encode (.sbcIzy 1)).head? = some 0xF1 ∧ closedGate.flags.d = true ∧
    closedGate.params.decimalMode = .refuse := by
  decide +kernel

/-- NOP is no writer of any register, and completes. -/
theorem test_witness_RegisterWritersAreTheListed :
    completes .nop (start full 0xFFFF [0xEA] []) = true ∧
    Instr.nop ∉ [Instr.aslAcc, .lsrAcc, .rolAcc, .rorAcc] := by
  decide +kernel

/-- NOP is no writer of any flag, and completes. -/
theorem test_witness_FlagWritersAreTheListed : completes .nop (start full 0xFFFF [0xEA] []) = true := by
  decide +kernel

/-- STA ($FF),Y at the top of memory stores to one address and to no other. -/
theorem test_witness_OnlyStoredBytesChange :
    let s := { pointers core with y := 0xFF }
    s.mem.wf = true ∧ completes (.staIzy 0xFF) s = true ∧ storedTo (.staIzy 0xFF) s = [0x1333] ∧
      (0x1332 : Word) ∉ storedTo (.staIzy 0xFF) s := by
  decide +kernel

/-- Each clause: the stored address of STA, PHA, STX, STY, INC and DEC at a boundary. -/
theorem test_witness_StoredByteReadsBack :
    let s := { pointers full with x := 0xFF, y := 0xFF }
    s.mem.wf = true ∧ storedTo (.staAbx 0xFFFF) s = [0x00FE] ∧ storedTo .pha s = [0x0100] ∧
      storedTo (.stxZpy 0x01) s = [0x0000] ∧ storedTo (.styZpx 0x00) s = [0x00FF] ∧
      storedTo (.incAbx 0x0000) s = [0x00FF] ∧ storedTo (.decZp 0xFF) s = [0x00FF] ∧
      [Instr.staAbx 0xFFFF, .pha, .stxZpy 1, .styZpx 0, .incAbx 0, .decZp 0xFF].all
        (fun i => completes i s) = true := by
  decide +kernel

/-- An instruction that does not write PC, at the top of memory. -/
theorem test_witness_PcAdvancesUnlessWritten :
    completes (.ldaAbs 0) (start core 0xFFFF [0xAD] []) = true ∧
    (Instr.ldaAbs 0).mnemonic ∉
      [Mnemonic.bpl, .bmi, .bvc, .bvs, .bcc, .bcs, .bne, .beq, .jmp, .jsr, .rts, .brk, .rti] := by
  decide +kernel

theorem test_witness_ParametersReachOnlyTheirInstructions :
    usesParams (.ldaAbs 0) = false ∧ completes (.ldaAbs 0) (start core 0 [] []) = true := by
  decide +kernel

theorem test_witness_NineRotatesRestore :
    Instr.rolAcc ∈ [Instr.rolAcc, .rorAcc] ∧ Instr.rorAcc ∈ [Instr.rolAcc, .rorAcc] := by
  decide +kernel

/-- The stack pointer at both ends of the stack page, under both settings of `PHP_B_BIT`. -/
theorem test_witness_PushThenPullGivesTheValueBack :
    (start core 0 [] []).Inv ∧ ({ pointers { full with phpBBit := .stored } with sp := 0xFF } : State).Inv := by
  unfold State.Inv
  decide +kernel

theorem test_witness_JsrThenRtsReturns : (start core 0 [] []).Inv :=
  test_witness_PushThenPullGivesTheValueBack.1

theorem test_witness_BrkThenRtiReturns : (start core 0 [] []).Inv :=
  test_witness_PushThenPullGivesTheValueBack.1

theorem test_witness_RunsKeepTheInvariant : (start core 0 [] []).Inv :=
  test_witness_PushThenPullGivesTheValueBack.1

end Sys2Proof.Tests
end

section
/-!
The configuration as an input of exec (00_scope.md R5): replaced before an instruction or after it, it makes no difference
to an instruction outside `usesParams`.
-/

namespace Sys2Proof.Machine

/-- The state under another configuration. -/
def State.withParams (s : State) (p : Params) : State := { s with params := p }

/-- A handler's answer under another configuration. -/
def Handled.withParams (h : Handled) (p : Params) : Handled :=
  match h with
  | .advance s => .advance (s.withParams p)
  | .jumped s => .jumped (s.withParams p)
  | .unmodelledDecimal => .unmodelledDecimal

@[simp] theorem Handled.withParams_advance (s : State) (p : Params) :
    (Handled.advance s).withParams p = .advance (s.withParams p) := rfl

@[simp] theorem Handled.withParams_jumped (s : State) (p : Params) :
    (Handled.jumped s).withParams p = .jumped (s.withParams p) := rfl

/-- A branch decided by the flags is decided alike under every configuration. -/
theorem branch_withParams (c : Bool) (target : Word) (s : State) (p : Params) :
    branch c target (s.withParams p) = (branch c target s).withParams p := by
  cases c <;> rfl

/-- Outside `usesParams` the handler commutes with a change of configuration. The excluded instructions go by hypothesis
and the branches by the flag they test; the answer of every other handler is one update of fields other than `params`, by
values that do not depend on `params`. -/
theorem handled_withParams {i : Instr} (hi : usesParams i = false) (s : State) (p : Params) :
    handled i (s.withParams p) = (handled i s).withParams p := by
  cases i
  case php | adcImm | adcZp | adcZpx | adcAbs | adcAbx | adcAby | adcIzx | adcIzy
      | sbcImm | sbcZp | sbcZpx | sbcAbs | sbcAbx | sbcAby | sbcIzx | sbcIzy
      | ldaIzx | ldaIzy | staIzx | staIzy | andIzx | andIzy | oraIzx | oraIzy | eorIzx | eorIzy | cmpIzx | cmpIzy =>
    cases hi
  case bpl | bmi | bvc | bvs | bcc | bcs | bne | beq => exact branch_withParams _ _ s p
  all_goals rfl

/-- A next state of exec outside `usesParams` is, under another configuration, the same one with that configuration. -/
theorem exec_withParams {i : Instr} {s t : State} (hi : usesParams i = false) (h : exec i s = .next t) (p : Params) :
    exec i (s.withParams p) = .next (t.withParams p) := by
  rw [exec_next, handled_withParams hi]
  rcases exec_next.1 h with ⟨u, hu, rfl⟩ | hj
  · exact .inl ⟨u.withParams p, by rw [hu, Handled.withParams_advance], rfl⟩
  · exact .inr (by rw [hj, Handled.withParams_jumped])

/-- Settles O51: the handlers outside `usesParams` commute with a change of configuration. -/
theorem parametersReachOnlyTheirInstructions : Obligations.ParametersReachOnlyTheirInstructions :=
  fun _ _ _ p hi h => exec_withParams hi h p

end Sys2Proof.Machine
end

section
/-!
The memory invariant (10_state.md R29): every store keeps the canonical form, a launch makes it, and in it a memory
is what its addresses read as.
-/

namespace Sys2Proof.Machine

/-- Bytes stored into a canonical memory leave a canonical one. -/
theorem Stores.wf {s : State} {as : List Word} {m : Memory} (h : Stores s as m) (hm : s.mem.wf = true) :
    m.wf = true := by
  cases h with
  | none => exact hm
  | one => exact Memory.write_wf _ _ hm
  | two => exact Memory.write_wf _ _ (Memory.write_wf _ _ hm)
  | three => exact Memory.write_wf _ _ (Memory.write_wf _ _ (Memory.write_wf _ _ hm))

/-- Every instruction keeps the invariant. -/
theorem exec_inv {i : Instr} {s t : State} (hs : s.Inv) (h : exec i s = .next t) : t.Inv :=
  (exec_stores h).wf hs

/-- Settles O15: the instruction at PC keeps the invariant, since all it does to memory is a list of stores. -/
theorem stepKeepsTheInvariant : Obligations.StepKeepsTheInvariant := by
  intro s t hs h
  obtain ⟨i, -, hi⟩ := step_next s h
  exact exec_inv hs hi

/-- Every launch state meets the invariant: its memory is the image's. -/
theorem State.launch_inv (l : Launch) : (State.launch l).Inv := Memory.ofImage_wf l.image

/-- Settles O14: reset is one of the launches. -/
theorem launchMeetsTheInvariant : Obligations.LaunchMeetsTheInvariant :=
  ⟨State.launch_inv resetLaunch, State.launch_inv⟩

/-- Past the first cell the rest of the list is read. -/
theorem lookup_cons_of_gt {a b : Nat} (w : Byte) (m : Memory) (h : b < a) : lookup ((b, w) :: m) a = lookup m a := by
  simp [lookup, h.not_gt, h.ne']

/-- At the address of its first cell a canonical list reads otherwise than one that begins past it. -/
theorem lookup_head_ne {b : Nat} {w : Byte} (m : Memory) {m' : Memory} (hw : w ≠ unlisted)
    (hm' : wfFrom (b + 1) m' = true) : lookup ((b, w) :: m) b ≠ lookup m' b := by
  rw [lookup_below hm' (Nat.lt_succ_self b)]
  simpa [lookup] using hw

/-- Canonical lists that read alike below 65536 are equal: their first cells stand at the lowest address that does not
read as unlisted, and past it the two rests read alike. -/
theorem wfFrom_ext {m m' : Memory} {lo : Nat} (hm : wfFrom lo m = true) (hm' : wfFrom lo m' = true)
    (h : ∀ a < memSize, lookup m a = lookup m' a) : m = m' := by
  induction m generalizing m' lo with
  | nil =>
    cases m' with
    | nil => rfl
    | cons c' m' =>
      obtain ⟨-, hb', hw', -⟩ := wfFrom_cons.1 hm'
      exact absurd (h _ hb').symm (lookup_head_ne m' hw' rfl)
  | cons c m ih =>
    obtain ⟨b, w⟩ := c
    obtain ⟨-, hb, hw, hr⟩ := wfFrom_cons.1 hm
    cases m' with
    | nil => exact absurd (h b hb) (lookup_head_ne m hw rfl)
    | cons c' m' =>
      obtain ⟨b', w'⟩ := c'
      obtain ⟨-, hb', hw', hr'⟩ := wfFrom_cons.1 hm'
      rcases Nat.lt_trichotomy b b' with hlt | rfl | hgt
      · exact absurd (h b hb) (lookup_head_ne m hw (wfFrom_cons.2 ⟨hlt, hb', hw', hr'⟩))
      · have hww : w = w' := by simpa [lookup] using h b hb
        have hmm : m = m' := by
          refine ih hr hr' fun a ha => ?_
          rcases Nat.lt_or_ge b a with hba | hab
          · simpa only [lookup_cons_of_gt _ _ hba] using h a ha
          · rw [lookup_below hr (Nat.lt_succ_of_le hab), lookup_below hr' (Nat.lt_succ_of_le hab)]
        rw [hww, hmm]
      · exact absurd (h b' hb').symm (lookup_head_ne m' hw' (wfFrom_cons.2 ⟨hgt, hb, hw, hr⟩))

/-- Settles O18: below 65536 a read is a lookup. -/
theorem canonicalMemoryIsItsReads : Obligations.CanonicalMemoryIsItsReads := by
  intro m m' hm hm' h
  refine wfFrom_ext hm hm' fun a ha => ?_
  have hr := h a ha
  rwa [Memory.read, Memory.read, Nat.mod_eq_of_lt ha] at hr

end Sys2Proof.Machine
end

section
/-!
The frame of the registers, the flags and the configuration (10_state.md R16 to R19, R23, R32): one table that says what
each mnemonic writes, which every instruction's next state fits, and one lemma per field that reads its writers off it.
-/

namespace Sys2Proof.Machine

variable {i : Instr} {m : Mnemonic} {s t : State}

/-- The location is A only for the accumulator form of a shift or rotate (41_addressing.md R83). -/
def AccOnly (loc : Loc) (i : Instr) : Prop := loc = .regA → i ∈ [.aslAcc, .lsrAcc, .rolAcc, .rorAcc]

/-- What a mnemonic can do to a state, the advance of PC aside: which fields it writes, whatever the values. -/
inductive Effect (i : Instr) (s : State) : Mnemonic → State → Prop
  | lda (v : Byte) : Effect i s .lda ((s.setA v).updateNz v)
  | ldx (v : Byte) : Effect i s .ldx ((s.setX v).updateNz v)
  | ldy (v : Byte) : Effect i s .ldy ((s.setY v).updateNz v)
  | sta (ea : Word) : Effect i s .sta (s.write ea s.a)
  | stx (ea : Word) : Effect i s .stx (s.write ea s.x)
  | sty (ea : Word) : Effect i s .sty (s.write ea s.y)
  | tax : Effect i s .tax ((s.setX s.a).updateNz s.a)
  | tay : Effect i s .tay ((s.setY s.a).updateNz s.a)
  | tsx : Effect i s .tsx ((s.setX s.sp).updateNz s.sp)
  | txa : Effect i s .txa ((s.setA s.x).updateNz s.x)
  | tya : Effect i s .tya ((s.setA s.y).updateNz s.y)
  | txs : Effect i s .txs (s.setSp s.x)
  | pha : Effect i s .pha (s.push s.a)
  | php (v : Byte) : Effect i s .php (s.push v)
  | pla : Effect i s .pla ((s.pull.2.setA s.pull.1).updateNz s.pull.1)
  | plp : Effect i s .plp (s.pull.2.setFlags (Flags.unpack s.pull.1))
  | asl (loc : Loc) (c : Bool) (v : Byte) (h : AccOnly loc i) :
      Effect i s .asl (((s.setFlags { s.flags with c := c }).writeLoc loc v).updateNz v)
  | lsr (loc : Loc) (c : Bool) (v : Byte) (h : AccOnly loc i) :
      Effect i s .lsr (((s.setFlags { s.flags with c := c }).writeLoc loc v).updateNz v)
  | rol (loc : Loc) (c : Bool) (v : Byte) (h : AccOnly loc i) :
      Effect i s .rol (((s.setFlags { s.flags with c := c }).writeLoc loc v).updateNz v)
  | ror (loc : Loc) (c : Bool) (v : Byte) (h : AccOnly loc i) :
      Effect i s .ror (((s.setFlags { s.flags with c := c }).writeLoc loc v).updateNz v)
  | adc (v : Byte) : Effect i s .adc (s.addToA v)
  | sbc (v : Byte) : Effect i s .sbc (s.addToA v)
  | and (v : Byte) : Effect i s .and (s.setANz v)
  | ora (v : Byte) : Effect i s .ora (s.setANz v)
  | eor (v : Byte) : Effect i s .eor (s.setANz v)
  | cmp (v : Byte) : Effect i s .cmp (s.setFlags (s.flags.afterCompare s.a v))
  | cpx (v : Byte) : Effect i s .cpx (s.setFlags (s.flags.afterCompare s.x v))
  | cpy (v : Byte) : Effect i s .cpy (s.setFlags (s.flags.afterCompare s.y v))
  | bit (v : Byte) : Effect i s .bit (s.setFlags (s.flags.afterBit s.a v))
  | inc (ea : Word) (v : Byte) : Effect i s .inc (s.writeNz ea v)
  | dec (ea : Word) (v : Byte) : Effect i s .dec (s.writeNz ea v)
  | inx (v : Byte) : Effect i s .inx ((s.setX v).updateNz v)
  | iny (v : Byte) : Effect i s .iny ((s.setY v).updateNz v)
  | dex (v : Byte) : Effect i s .dex ((s.setX v).updateNz v)
  | dey (v : Byte) : Effect i s .dey ((s.setY v).updateNz v)
  | bpl (w : Word) : Effect i s .bpl (s.setPc w)
  | bmi (w : Word) : Effect i s .bmi (s.setPc w)
  | bvc (w : Word) : Effect i s .bvc (s.setPc w)
  | bvs (w : Word) : Effect i s .bvs (s.setPc w)
  | bcc (w : Word) : Effect i s .bcc (s.setPc w)
  | bcs (w : Word) : Effect i s .bcs (s.setPc w)
  | bne (w : Word) : Effect i s .bne (s.setPc w)
  | beq (w : Word) : Effect i s .beq (s.setPc w)
  | jmp (w : Word) : Effect i s .jmp (s.setPc w)
  | jsr (ret w : Word) : Effect i s .jsr ((s.pushWord ret).setPc w)
  | rts (w : Word) : Effect i s .rts (s.pullWord.2.setPc w)
  | brk : Effect i s .brk s.enterBreak
  | rti : Effect i s .rti s.leaveBreak
  | clc : Effect i s .clc (s.setFlags { s.flags with c := false })
  | sec : Effect i s .sec (s.setFlags { s.flags with c := true })
  | cli : Effect i s .cli (s.setFlags { s.flags with i := false })
  | sei : Effect i s .sei (s.setFlags { s.flags with i := true })
  | clv : Effect i s .clv (s.setFlags { s.flags with v := false })
  | cld : Effect i s .cld (s.setFlags { s.flags with d := false })
  | sed : Effect i s .sed (s.setFlags { s.flags with d := true })
  | nop : Effect i s .nop s

/-- A taken branch writes PC; an untaken one writes PC's own value. -/
theorem effect_of_branch {c : Bool} {target : Word} (h : (branch c target s).state? = some t) :
    ∃ w, t = s.setPc w := by
  cases c with
  | true => exact ⟨target, (Option.some.inj h).symm⟩
  | false => exact ⟨s.pc, (Option.some.inj h).symm⟩

/-- Where the decimal gate lets an addition through, it is the addition. -/
theorem effect_of_gate {v : Byte} (h : (decimalGate s (.advance (s.addToA v))).state? = some t) :
    t = s.addToA v := by
  rw [decimalGate_eq] at h
  split at h
  · cases h
  · exact (Option.some.inj h).symm

/-- The state of every handler's answer fits the table. -/
theorem handled_effect (h : (handled i s).state? = some t) : Effect i s i.mnemonic t := by
  cases i
  case adcImm | adcZp | adcZpx | adcAbs | adcAbx | adcAby | adcIzx | adcIzy
      | sbcImm | sbcZp | sbcZpx | sbcAbs | sbcAbx | sbcAby | sbcIzx | sbcIzy =>
    rw [effect_of_gate h]
    constructor
  case bpl | bmi | bvc | bvs | bcc | bcs | bne | beq =>
    obtain ⟨w, rfl⟩ := effect_of_branch h
    constructor
  case aslAcc | lsrAcc | rolAcc | rorAcc =>
    cases h
    constructor
    simp [AccOnly]
  case aslZp | aslZpx | aslAbs | aslAbx | lsrZp | lsrZpx | lsrAbs | lsrAbx
      | rolZp | rolZpx | rolAbs | rolAbx | rorZp | rorZpx | rorAbs | rorAbx =>
    cases h
    constructor
    nofun
  all_goals
    cases h
    constructor

/-- A next state of exec fits the table but for the advance of PC. -/
theorem exec_effect (h : exec i s = .next t) : ∃ u w, Effect i s i.mnemonic u ∧ t = u.setPc w := by
  rcases exec_next.1 h with ⟨u, h', rfl⟩ | h'
  · exact ⟨u, _, handled_effect (by rw [h']; rfl), rfl⟩
  · exact ⟨t, t.pc, handled_effect (by rw [h']; rfl), rfl⟩

/-! A location is A or a byte of memory, so writing one leaves every other field alone. -/

@[simp] theorem State.writeLoc_x (s : State) (loc : Loc) (v : Byte) : (s.writeLoc loc v).x = s.x := by
  cases loc <;> rfl

@[simp] theorem State.writeLoc_y (s : State) (loc : Loc) (v : Byte) : (s.writeLoc loc v).y = s.y := by
  cases loc <;> rfl

@[simp] theorem State.writeLoc_sp (s : State) (loc : Loc) (v : Byte) : (s.writeLoc loc v).sp = s.sp := by
  cases loc <;> rfl

@[simp] theorem State.writeLoc_flags (s : State) (loc : Loc) (v : Byte) : (s.writeLoc loc v).flags = s.flags := by
  cases loc <;> rfl

@[simp] theorem State.writeLoc_params (s : State) (loc : Loc) (v : Byte) : (s.writeLoc loc v).params = s.params := by
  cases loc <;> rfl

/-- A changes only by its writers (R16). -/
theorem Effect.a_eq (he : Effect i s m t) (hm : m ∉ [.lda, .txa, .tya, .pla, .adc, .sbc, .and, .ora, .eor])
    (hi : i ∉ [.aslAcc, .lsrAcc, .rolAcc, .rorAcc]) : t.a = s.a := by
  cases he
  case lda | txa | tya | pla | adc | sbc | and | ora | eor => simp at hm
  case asl loc c v h | lsr loc c v h | rol loc c v h | ror loc c v h =>
    cases loc with
    | regA => exact absurd (h rfl) hi
    | mem ea => rfl
  all_goals rfl

/-- X changes only by its writers (R17). -/
theorem Effect.x_eq (he : Effect i s m t) (hm : m ∉ [.ldx, .tax, .tsx, .inx, .dex]) : t.x = s.x := by
  cases he
  case ldx | tax | tsx | inx | dex => simp at hm
  case asl | lsr | rol | ror => simp
  all_goals rfl

/-- Y changes only by its writers (R18). -/
theorem Effect.y_eq (he : Effect i s m t) (hm : m ∉ [.ldy, .tay, .iny, .dey]) : t.y = s.y := by
  cases he
  case ldy | tay | iny | dey => simp at hm
  case asl | lsr | rol | ror => simp
  all_goals rfl

/-- SP changes only by its writers (R19). -/
theorem Effect.sp_eq (he : Effect i s m t) (hm : m ∉ [.txs, .pha, .php, .pla, .plp, .jsr, .rts, .brk, .rti]) :
    t.sp = s.sp := by
  cases he
  case txs | pha | php | pla | plp | jsr | rts | brk | rti => simp at hm
  case asl | lsr | rol | ror => simp
  all_goals rfl

/-- Settles O46: the table's writers of each register, PC's advance being no write of any of them. -/
theorem registerWritersAreTheListed : Obligations.RegisterWritersAreTheListed := by
  intro i s t h
  obtain ⟨u, w, he, rfl⟩ := exec_effect h
  exact ⟨he.a_eq, he.x_eq, he.y_eq, he.sp_eq⟩

/-- N and Z change only by their writers (R23). -/
theorem Effect.n_z_eq (he : Effect i s m t)
    (hm : m ∉ [.lda, .ldx, .ldy, .tax, .tay, .tsx, .txa, .tya, .pla, .plp, .asl, .lsr, .rol, .ror, .adc, .sbc, .and,
      .ora, .eor, .cmp, .cpx, .cpy, .bit, .inc, .dec, .inx, .iny, .dex, .dey, .rti]) :
    t.flags.n = s.flags.n ∧ t.flags.z = s.flags.z := by
  cases he
  case lda | ldx | ldy | tax | tay | tsx | txa | tya | pla | plp | asl | lsr | rol | ror | adc | sbc | and
      | ora | eor | cmp | cpx | cpy | bit | inc | dec | inx | iny | dex | dey | rti => simp at hm
  all_goals exact ⟨rfl, rfl⟩

/-- V changes only by its writers (R23). -/
theorem Effect.v_eq (he : Effect i s m t) (hm : m ∉ [.plp, .adc, .sbc, .bit, .clv, .rti]) : t.flags.v = s.flags.v := by
  cases he
  case plp | adc | sbc | bit | clv | rti => simp at hm
  case asl | lsr | rol | ror => simp
  all_goals rfl

/-- B changes only by its writers (R23). -/
theorem Effect.b_eq (he : Effect i s m t) (hm : m ∉ [.plp, .rti]) : t.flags.b = s.flags.b := by
  cases he
  case plp | rti => simp at hm
  case asl | lsr | rol | ror => simp
  all_goals rfl

/-- D changes only by its writers (R23). -/
theorem Effect.d_eq (he : Effect i s m t) (hm : m ∉ [.plp, .cld, .sed, .rti]) : t.flags.d = s.flags.d := by
  cases he
  case plp | cld | sed | rti => simp at hm
  case asl | lsr | rol | ror => simp
  all_goals rfl

/-- I changes only by its writers (R23). -/
theorem Effect.i_eq (he : Effect i s m t) (hm : m ∉ [.plp, .sei, .cli, .brk, .rti]) : t.flags.i = s.flags.i := by
  cases he
  case plp | sei | cli | brk | rti => simp at hm
  case asl | lsr | rol | ror => simp
  all_goals rfl

/-- C changes only by its writers (R23). -/
theorem Effect.c_eq (he : Effect i s m t)
    (hm : m ∉ [.asl, .lsr, .rol, .ror, .plp, .adc, .sbc, .cmp, .cpx, .cpy, .clc, .sec, .rti]) :
    t.flags.c = s.flags.c := by
  cases he
  case asl | lsr | rol | ror | plp | adc | sbc | cmp | cpx | cpy | clc | sec | rti => simp at hm
  all_goals rfl

/-- Settles O47: the table's writers of each flag, PC's advance being no write of any of them. -/
theorem flagWritersAreTheListed : Obligations.FlagWritersAreTheListed := by
  intro i s t h
  obtain ⟨u, w, he, rfl⟩ := exec_effect h
  exact ⟨he.n_z_eq, he.v_eq, he.b_eq, he.d_eq, he.i_eq, he.c_eq⟩

/-- No row of the table writes the configuration. -/
theorem Effect.params_eq (he : Effect i s m t) : t.params = s.params := by
  cases he
  case asl | lsr | rol | ror => simp
  all_goals rfl

/-- No instruction changes the configuration. -/
theorem exec_params (h : exec i s = .next t) : t.params = s.params := by
  obtain ⟨u, w, he, rfl⟩ := exec_effect h
  exact he.params_eq

/-- Settles O16: a step that answers a next state is one instruction. -/
theorem stepKeepsTheConfiguration : Obligations.StepKeepsTheConfiguration := by
  refine ⟨fun s t h => ?_, fun _ _ _ => exec_params⟩
  obtain ⟨i, -, hi⟩ := step_next s h
  exact exec_params hi

end Sys2Proof.Machine
end

section
/-!
The packed flag byte (10_state.md R22, R25, R26), bit by bit and as a number.
-/

namespace Sys2Proof.Machine

/-- A flag put at position `k` of a byte shows there and nowhere else. -/
@[simp] theorem getElem_flagBit (b : Bool) (k : Nat) {j : Nat} (hj : j < 8) :
    (flagBit b k)[j] = (b && decide (j = k)) := by
  cases b with
  | false => simp [flagBit]
  | true =>
    rw [flagBit, if_pos rfl, ← BitVec.getLsbD_eq_getElem, BitVec.natCast_eq_ofNat, BitVec.getLsbD_ofNat,
      Nat.one_shiftLeft, Nat.testBit_two_pow]
    simp [hj, eq_comm]

/-- Every flag comes back from its bit of the packed byte. -/
theorem Flags.unpack_pack (f : Flags) : Flags.unpack f.pack = f := by
  simp [Flags.unpack, Flags.pack]

/-- Packing the flags of a byte gives its bits back, and 1 at bit 5. -/
theorem Flags.pack_unpack (b : Byte) : (Flags.unpack b).pack = b ||| 0b00100000 := by
  apply BitVec.eq_of_getElem_eq
  intro j hj
  interval_cases j <;> simp [Flags.unpack, Flags.pack]

/-- The packed byte as a number: each of its 128 values is the sum of the weights of the flags that are set. -/
theorem Flags.pack_toNat (f : Flags) :
    f.pack.toNat = f.n.toNat * 128 + f.v.toNat * 64 + 32 + f.b.toNat * 16 + f.d.toNat * 8 + f.i.toNat * 4 +
      f.z.toNat * 2 + f.c.toNat := by
  obtain ⟨n, v, b, d, i, z, c⟩ := f
  revert n v b d i z c
  decide

/-- Settles O19, from the bits of the packed byte. -/
theorem flagPrimitiveLaws : Obligations.FlagPrimitiveLaws := by
  refine ⟨fun f v => ⟨?_, ?_⟩, Flags.pack_unpack, Flags.unpack_pack⟩
  · rw [Flags.updateNz_z, beq_iff_eq]
  · rw [Flags.updateNz_n]

/-- Settles O20: `unpack` is written as the layout says, and `pack` is the weighted sum. -/
theorem packedFlagLayout : Obligations.PackedFlagLayout := ⟨Flags.pack_toNat, fun _ => rfl⟩

end Sys2Proof.Machine
end

section
/-!
The bytes of memory an instruction changes (20_memory.md R39, R44, R49, R53, R55), and addresses past the top of memory
(R40).
-/

namespace Sys2Proof.Machine

/-- A read sees its address modulo 65536. -/
theorem Memory.read_add_memSize_mul (m : Memory) (a k : Nat) : m.read (a + memSize * k) = m.read a := by
  rw [Memory.read, Nat.add_mul_mod_self_left, Memory.read]

/-- A write sees its address modulo 65536. -/
theorem Memory.write_add_memSize_mul (m : Memory) (a k : Nat) (v : Byte) :
    m.write (a + memSize * k) v = m.write a v := by
  rw [Memory.write, Nat.add_mul_mod_self_left, Memory.write]

/-- Settles O17: both reduce their address modulo `memSize`, which is 65536. -/
theorem memoryWrapsModulo65536 : Obligations.MemoryWrapsModulo65536 :=
  fun m a k v => ⟨m.read_add_memSize_mul a k, m.write_add_memSize_mul a k v⟩

/-- A write to one 16-bit address leaves every other one alone. -/
theorem Memory.read_write_word_of_ne {m : Memory} {a c : Word} (v : Byte) (hm : m.wf = true) (h : c ≠ a) :
    (m.write a.toNat v).read c.toNat = m.read c.toNat := by
  rw [Memory.read_write_word a c v hm, if_neg h]

/-- A byte at none of the addresses stored to is as before: each store is to another address, in a memory that the
stores before it left canonical. -/
theorem Stores.read_of_notMem {s : State} {as : List Word} {m : Memory} {a : Word} (h : Stores s as m) (hs : s.Inv)
    (ha : a ∉ as) : m.read a.toNat = s.read a := by
  cases h with
  | none => rfl
  | one b v => exact Memory.read_write_word_of_ne v hs (List.ne_of_not_mem_cons ha)
  | two b c v w =>
    obtain ⟨hb, hc⟩ : a ≠ b ∧ a ≠ c := by simpa using ha
    have hs₁ := Memory.write_wf b.toNat v hs
    exact (Memory.read_write_word_of_ne w hs₁ hc).trans (Memory.read_write_word_of_ne v hs hb)
  | three b c d v w x =>
    obtain ⟨hb, hc, hd⟩ : a ≠ b ∧ a ≠ c ∧ a ≠ d := by simpa using ha
    have hs₁ := Memory.write_wf b.toNat v hs
    have hs₂ := Memory.write_wf c.toNat w hs₁
    calc
      (((s.mem.write b.toNat v).write c.toNat w).write d.toNat x).read a.toNat
      _ = ((s.mem.write b.toNat v).write c.toNat w).read a.toNat := Memory.read_write_word_of_ne x hs₂ hd
      _ = (s.mem.write b.toNat v).read a.toNat := Memory.read_write_word_of_ne w hs₁ hc
      _ = s.read a := Memory.read_write_word_of_ne v hs hb

/-- Settles O48: all that an instruction does to memory is a list of stores, at the addresses of `storedTo`. -/
theorem onlyStoredBytesChange : Obligations.OnlyStoredBytesChange :=
  fun _ _ _ hs h _ ha => (exec_stores h).read_of_notMem hs ha

/-- The byte that STA, PHA, STX, STY, INC and DEC store at address `a` (42_load_store.md R100 to R102, 44_stack.md R112,
46_ext_alu.md R130, R131). -/
def storedValue (m : Mnemonic) (a : Word) (s : State) : Option Byte :=
  match m with
  | .sta | .pha => some s.a
  | .stx => some s.x
  | .sty => some s.y
  | .inc => some (s.read a + 1)
  | .dec => some (s.read a - 1)
  | _ => none

/-- The handler of an instruction with a `storedValue` writes that byte at its stored address. The instructions with
none go by hypothesis; the handler of every other is one write at the address that `storedTo` resolves. -/
theorem handled_writes_storedValue {i : Instr} {s t : State} {a : Word} {v : Byte} (ha : storedTo i s = [a])
    (hv : storedValue i.mnemonic a s = some v) (h : (handled i s).state? = some t) : t.mem = s.mem.write a.toNat v := by
  cases i
  case staZp | staZpx | staAbs | staAbx | staAby | staIzx | staIzy | pha
      | stxZp | stxZpy | stxAbs | styZp | styZpx | styAbs
      | incZp | incZpx | incAbs | incAbx | decZp | decZpx | decAbs | decAbx =>
    cases ha
    cases hv
    cases h
    rfl
  all_goals cases hv

/-- After an instruction with a `storedValue` its stored address reads as that byte. -/
theorem exec_read_storedValue {i : Instr} {s t : State} {a : Word} {v : Byte} (hs : s.Inv) (h : exec i s = .next t)
    (ha : storedTo i s = [a]) (hv : storedValue i.mnemonic a s = some v) : t.read a = v := by
  have hm : t.mem = s.mem.write a.toNat v := by
    rcases exec_next.1 h with ⟨u, hu, rfl⟩ | hj
    · exact handled_writes_storedValue ha hv (t := u) (by rw [hu]; rfl)
    · exact handled_writes_storedValue ha hv (by rw [hj]; rfl)
  rw [State.read, hm]
  exact Memory.read_write_same _ _ hs

/-- Settles O49: each clause is the `storedValue` of its mnemonic. -/
theorem storedByteReadsBack : Obligations.StoredByteReadsBack := by
  intro i s t a hs h ha
  have hr {m : Mnemonic} {v : Byte} (hi : i.mnemonic = m) (hv : storedValue m a s = some v) : t.read a = v :=
    exec_read_storedValue hs h ha (hi ▸ hv)
  refine ⟨fun hi => ?_, (hr · rfl), (hr · rfl), (hr · rfl), (hr · rfl)⟩
  rcases List.mem_pair.1 hi with hi | hi <;> exact hr hi rfl

end Sys2Proof.Machine
end

section
/-!
The opcode table both ways (30_encoding.md R56, R57, R62, R63, R65): what a row reads its instruction encodes to, every
instruction is read by the row of its opcode, and decoding is reading by a row.
-/

namespace Sys2Proof

open Machine

/-- `form.Reads i operands`: the format makes `i` of exactly those operand bytes (R58 to R61). -/
inductive Form.Reads : Form → Instr → List Byte → Prop
  | f1 (i : Instr) : Reads (.f1 i) i []
  | f2 (f : Byte → Instr) (b1 : Byte) : Reads (.f2 f) (f b1) [b1]
  | f3 (f : Word → Instr) (w : Word) : Reads (.f3 f) (f w) [lo8 w, hi8 w]

/-- What a row reads its instruction encodes to, and the instruction's mnemonic belongs to the row's profile. -/
def Row.Coherent (r : Row) : Prop :=
  ∀ i operands, r.form.Reads i operands → encode i = r.opcode :: operands ∧ i.mnemonic.profile = r.profile

/-- Every row of the table is coherent: in each format the row's constructor and its opcode are those of one equation of
`encode`. -/
theorem Row.coherent_of_mem : ∀ r ∈ opcodeTable, r.Coherent := by
  simp only [opcodeTable, loadRows, storeRows, impliedRows, shiftRows, arithRows, logicRows, compareRows, countRows,
    branchRows, controlRows, flagRows, List.forall_mem_append, List.forall_mem_cons, List.not_mem_nil, false_imp_iff,
    implies_true, and_true]
  and_intros
  all_goals
    rintro _ _ ⟨⟩
    exact ⟨rfl, rfl⟩

/-- The table's row of an instruction's opcode reads the instruction from the rest of its encoding. -/
theorem exists_row_reads (i : Instr) :
    ∃ op operands r, encode i = op :: operands ∧ lookupOpcode .full op = some r ∧ r.form.Reads i operands := by
  cases i
  case tax | tay | tsx | txa | tya | txs | pha | php | pla | plp | aslAcc | lsrAcc | rolAcc | rorAcc
      | inx | iny | dex | dey | rts | rti | clc | sec | cli | sei | clv | cld | sed | nop =>
    exact ⟨_, _, _, rfl, rfl, .f1 _⟩
  case ldaAbs | ldaAbx | ldaAby | ldxAbs | ldxAby | ldyAbs | ldyAbx | staAbs | staAbx | staAby | stxAbs | styAbs
      | aslAbs | aslAbx | lsrAbs | lsrAbx | rolAbs | rolAbx | rorAbs | rorAbx
      | adcAbs | adcAbx | adcAby | sbcAbs | sbcAbx | sbcAby | andAbs | andAbx | andAby | oraAbs | oraAbx | oraAby
      | eorAbs | eorAbx | eorAby | cmpAbs | cmpAbx | cmpAby | cpxAbs | cpyAbs | bitAbs
      | incAbs | incAbx | decAbs | decAbx | jmpAbs | jmpInd | jsr =>
    exact ⟨_, _, _, rfl, rfl, .f3 _ _⟩
  all_goals exact ⟨_, _, _, rfl, rfl, .f2 _ _⟩

/-- Bytes decode to an instruction exactly where a row that the profile admits reads it at their head. -/
theorem decode_eq_instr {p : Profile} {bytes rest : List Byte} {i : Instr} :
    decode p bytes = .instr i rest ↔
      ∃ r ∈ opcodeTable, p.admits r.profile = true ∧
        ∃ operands, r.form.Reads i operands ∧ bytes = r.opcode :: (operands ++ rest) := by
  constructor
  · intro h
    cases bytes with
    | nil => cases h
    | cons op tail =>
      cases hr : lookupOpcode p op with
      | none => simp [decode, hr] at h
      | some r =>
        obtain ⟨hmem, rfl, hp⟩ := lookupOpcode_some hr
        refine ⟨r, hmem, hp, ?_⟩
        simp only [decode, hr] at h
        split at h <;> cases h
        next hf => exact ⟨[], hf ▸ .f1 i, rfl⟩
        next f b1 hf => exact ⟨[b1], hf ▸ .f2 f b1, rfl⟩
        next f lo hi hf => exact ⟨[lo, hi], by simpa [hf] using Form.Reads.f3 f (word lo hi), rfl⟩
  · rintro ⟨r, hmem, hp, operands, hreads, rfl⟩
    have hr := lookupOpcode_of_mem hmem hp
    generalize hf : r.form = form at hreads
    cases hreads with
    | f1 => exact decode_of_f1 rest hr hf
    | f2 f b1 => exact decode_of_f2 b1 rest hr hf
    | f3 f w => exact decode_of_f3 w rest hr hf

/-- Settles O1: the row of the instruction's opcode reads it from the bytes that `encode` gives. -/
theorem decodeOfEncodeIsTheInstruction : Obligations.DecodeOfEncodeIsTheInstruction := by
  intro p i rest hi
  obtain ⟨op, operands, r, hbytes, hr, hreads⟩ := exists_row_reads i
  obtain ⟨hmem, rfl, -⟩ := lookupOpcode_some hr
  obtain ⟨-, hprofile⟩ := Row.coherent_of_mem r hmem i operands hreads
  rw [Instr.wellFormed, hprofile] at hi
  exact decode_eq_instr.2 ⟨r, hmem, hi, operands, hreads, by rw [hbytes, List.cons_append]⟩

/-- Settles O2: the row that reads the instruction is coherent. -/
theorem encodeOfDecodeIsTheBytes : Obligations.EncodeOfDecodeIsTheBytes := by
  intro p bytes rest i h
  obtain ⟨r, hmem, hp, operands, hreads, rfl⟩ := decode_eq_instr.1 h
  obtain ⟨hbytes, hprofile⟩ := Row.coherent_of_mem r hmem i operands hreads
  exact ⟨by rw [hbytes, List.cons_append], by rw [Instr.wellFormed, hprofile, hp]⟩

/-- A row that CORE finds, FULL finds too: FULL admits every row. -/
theorem lookupOpcode_full_of_core {op : Byte} {r : Row} (h : lookupOpcode .core op = some r) :
    lookupOpcode .full op = some r := by
  obtain ⟨hmem, rfl, -⟩ := lookupOpcode_some h
  exact lookupOpcode_of_mem hmem rfl

/-- Settles O5: the two tables find the same row. -/
theorem coreTableIsPartOfFull : Obligations.CoreTableIsPartOfFull := by
  intro op b1 b2 i h
  obtain ⟨r, hr, hi⟩ := Option.map_eq_some_iff.1 h
  exact Option.map_eq_some_iff.2 ⟨r, lookupOpcode_full_of_core hr, hi⟩

/-- Settles O3: each example is the encoding of its instruction. -/
theorem syntaxTableExamplesDecode : Obligations.SyntaxTableExamplesDecode :=
  have h (p : Profile) (i : Instr) (hi : i.wellFormed p = true) : decode p (encode i ++ []) = .instr i [] :=
    decodeOfEncodeIsTheInstruction p i [] hi
  ⟨h .core .tax rfl, h .core .aslAcc rfl, h .core (.ldaImm 0x80) rfl, h .core (.ldaZp 0x10) rfl,
    h .core (.ldaZpx 0x10) rfl, h .core (.ldxZpy 0x10) rfl, h .core (.ldaAbs 0x1234) rfl, h .core (.staAbx 0x0200) rfl,
    h .core (.ldaAby 0x0200) rfl, h .full (.jmpInd 0x1000) rfl, h .core (.ldaIzx 0x20) rfl,
    h .core (.staIzy 0x20) rfl, h .full (.bne 0xF9) rfl⟩

/-- The rows of a profile (R62, R63). -/
def Profile.rows (p : Profile) : List Row := opcodeTable.filter (p.admits ·.profile)

/-- A byte has an entry exactly where it is the opcode of a row of the profile. -/
theorem isSome_lookupOpcode {p : Profile} {op : Byte} :
    (lookupOpcode p op).isSome = true ↔ ∃ r ∈ p.rows, r.opcode = op := by
  rw [Option.isSome_iff_exists]
  constructor
  · rintro ⟨r, hr⟩
    obtain ⟨hmem, hop, hp⟩ := lookupOpcode_some hr
    exact ⟨r, List.mem_filter.2 ⟨hmem, hp⟩, hop⟩
  · rintro ⟨r, hr, rfl⟩
    obtain ⟨hmem, hp⟩ := List.mem_filter.1 hr
    exact ⟨r, lookupOpcode_of_mem hmem hp⟩

/-- The bytes with an entry are the opcodes of the profile's rows, each of them once. -/
theorem assigned_perm_opcodes (p : Profile) :
    ((List.range 256).filter fun n => (lookupOpcode p (BitVec.ofNat 8 n)).isSome).Perm
      (p.rows.map (·.opcode.toNat)) := by
  have hnodup : (p.rows.map (·.opcode.toNat)).Nodup := by
    have hops : (p.rows.map (·.opcode)).Nodup := opcodes_nodup.sublist (List.filter_sublist.map _)
    have hnats := hops.map BitVec.toNat_injective
    rwa [List.map_map] at hnats
  rw [List.perm_ext_iff_of_nodup (List.nodup_range.filter _) hnodup]
  intro n
  rw [List.mem_filter, List.mem_range, isSome_lookupOpcode, List.mem_map]
  constructor
  · rintro ⟨hn, r, hr, hop⟩
    exact ⟨r, hr, by rw [hop, BitVec.toNat_ofNat, Nat.mod_eq_of_lt hn]⟩
  · rintro ⟨r, hr, rfl⟩
    exact ⟨r.opcode.isLt, r, hr, by rw [BitVec.ofNat_toNat, BitVec.setWidth_eq]⟩

/-- Every row of the profile takes one of the 256 bytes. -/
theorem length_unassigned (p : Profile) :
    ((List.range 256).filter fun n => (lookupOpcode p (BitVec.ofNat 8 n)).isNone).length = 256 - p.rows.length := by
  have hlen := (assigned_perm_opcodes p).length_eq
  have hsplit := List.length_eq_length_filter_add (l := List.range 256)
    fun n => (lookupOpcode p (BitVec.ofNat 8 n)).isSome
  simp only [List.length_map, List.length_range, Option.not_isSome] at hlen hsplit
  omega

/-- Settles O4: CORE has 61 rows and FULL has all 151. -/
theorem unassignedByteCounts : Obligations.UnassignedByteCounts := by
  have hcore : Profile.core.rows.length = 61 := rfl
  have hfull : Profile.full.rows.length = 151 := rfl
  refine ⟨?_, ?_, rfl⟩
  · exact (length_unassigned .core).trans (by rw [hcore])
  · exact (length_unassigned .full).trans (by rw [hfull])

end Sys2Proof
end

section
/-!
The dispatcher (40_dispatch.md R67 to R76): what is fetched, the step in terms of it, and how every handler leaves PC.
-/

namespace Sys2Proof.Machine

variable {s : State} {i : Instr}

/-- The first byte fetched is the byte at PC. -/
@[simp] theorem fetchByte_zero (s : State) : fetchByte s 0 = s.read s.pc :=
  congrArg s.read (BitVec.add_zero s.pc)

/-- An instruction is fetched exactly where the three bytes from PC on decode to it (R68, R69). -/
theorem fetchInstr_eq_some :
    fetchInstr s = some i ↔
      ∃ rest, decode s.params.profile [s.read s.pc, s.read (s.pc + 1), s.read (s.pc + 2)] = .instr i rest := by
  rw [fetchInstr, decodeWindow_eq_some, fetchByte_zero, fetchByte, fetchByte]

/-- Nothing is fetched exactly where the byte at PC has no entry (R70). -/
theorem fetchInstr_eq_none : fetchInstr s = none ↔ lookupOpcode s.params.profile (s.read s.pc) = none := by
  rw [fetchInstr, decodeWindow, Option.map_eq_none_iff, fetchByte_zero]

/-- An instruction that is fetched exists in the active profile. -/
theorem wellFormed_of_fetchInstr (h : fetchInstr s = some i) : i.wellFormed s.params.profile = true := by
  obtain ⟨rest, hdec⟩ := fetchInstr_eq_some.1 h
  exact (encodeOfDecodeIsTheBytes _ _ _ _ hdec).2

/-- The step runs the instruction fetched. -/
theorem step_of_fetchInstr_eq_some (h : fetchInstr s = some i) : step s = exec i s := by
  rw [step, h]

/-- Where nothing is fetched, the step is the decode fault of the byte at PC. -/
theorem step_of_fetchInstr_eq_none (h : fetchInstr s = none) : step s = .fault (.decodeFault s.pc (s.read s.pc)) := by
  rw [step, h, fetchByte_zero]

/-- Settles O6: those bytes are what the step fetches. -/
theorem stepRunsTheDecodedInstruction : Obligations.StepRunsTheDecodedInstruction :=
  fun _ _ rest h => step_of_fetchInstr_eq_some (fetchInstr_eq_some.2 ⟨rest, h⟩)

/-- Settles O7: nothing is fetched there. -/
theorem stepFaultsOnUnassignedByte : Obligations.StepFaultsOnUnassignedByte :=
  fun _ h => step_of_fetchInstr_eq_none (fetchInstr_eq_none.2 h)

/-- The mnemonics whose handlers can write PC (R72). -/
def pcWriters : List Mnemonic := [.bpl, .bmi, .bvc, .bvs, .bcc, .bcs, .bne, .beq, .jmp, .jsr, .rts, .brk, .rti]

/-- What the handler of a mnemonic can answer (R72, R76): only a PC writer jumps, and only ADC and SBC refuse, at a
closed decimal gate. -/
inductive Answers (s : State) (m : Mnemonic) : Handled → Prop
  | advance (u : State) : Answers s m (.advance u)
  | jumped (u : State) (hm : m ∈ pcWriters) : Answers s m (.jumped u)
  | unmodelledDecimal (hm : m ∈ [.adc, .sbc]) (hd : s.flags.d = true) (hr : s.params.decimalMode = .refuse) :
      Answers s m .unmodelledDecimal

/-- A branch jumps or goes on, so its mnemonic has to be a PC writer's. -/
theorem answers_branch {m : Mnemonic} (hm : m ∈ pcWriters) (c : Bool) (target : Word) (s : State) :
    Answers s m (branch c target s) := by
  cases c with
  | true => exact .jumped _ hm
  | false => exact .advance s

/-- The decimal gate passes an addition on or refuses it, so its mnemonic has to be ADC or SBC. -/
theorem answers_decimalGate {m : Mnemonic} (hm : m ∈ [.adc, .sbc]) (s u : State) :
    Answers s m (decimalGate s (.advance u)) := by
  rw [decimalGate_eq]
  split
  next hclosed => exact .unmodelledDecimal hm hclosed.1 hclosed.2
  next => exact .advance u

/-- Every handler answers as its mnemonic can. -/
theorem handled_answers (i : Instr) (s : State) : Answers s i.mnemonic (handled i s) := by
  cases i
  case adcImm | adcZp | adcZpx | adcAbs | adcAbx | adcAby | adcIzx | adcIzy
      | sbcImm | sbcZp | sbcZpx | sbcAbs | sbcAbx | sbcAby | sbcIzx | sbcIzy =>
    exact answers_decimalGate (by simp [Instr.mnemonic]) s _
  case bpl | bmi | bvc | bvs | bcc | bcs | bne | beq =>
    exact answers_branch (by simp [Instr.mnemonic, pcWriters]) _ _ s
  case jmpAbs | jmpInd | jsr | rts | brk | rti => exact .jumped _ (by simp [Instr.mnemonic, pcWriters])
  all_goals exact .advance _

/-- Only a PC writer's handler jumps. -/
theorem mem_pcWriters_of_handled_eq_jumped {u : State} (h : handled i s = .jumped u) : i.mnemonic ∈ pcWriters := by
  cases h ▸ handled_answers i s with
  | jumped _ hm => exact hm

/-- Settles O50: the handler did not jump, so the end of the step advanced PC. -/
theorem pcAdvancesUnlessWritten : Obligations.PcAdvancesUnlessWritten := by
  intro i s t h hm
  rcases exec_next.1 h with ⟨u, -, rfl⟩ | hj
  · rfl
  · exact absurd (mem_pcWriters_of_handled_eq_jumped hj) hm

/-- An instruction of profile CORE is no PC writer and no addition, so its handler advances. -/
theorem exists_handled_eq_advance_of_core (s : State) (hi : i.wellFormed .core = true) :
    ∃ u, handled i s = .advance u := by
  have hcore : i.mnemonic.profile ≠ .full := fun hfull => by simp [Instr.wellFormed, hfull, Profile.admits] at hi
  have hwriters : ∀ m ∈ pcWriters, m.profile = .full := by decide
  have hadditions : ∀ m ∈ [Mnemonic.adc, .sbc], m.profile = .full := by decide
  have ha := handled_answers i s
  generalize handled i s = h at ha ⊢
  cases ha with
  | advance u => exact ⟨u, rfl⟩
  | jumped u hm => exact absurd (hwriters _ hm) hcore
  | unmodelledDecimal hm => exact absurd (hadditions _ hm) hcore

/-- Settles O9: the instruction fetched exists in CORE, so its handler advances. -/
theorem coreProfileStepsAdvance : Obligations.CoreProfileStepsAdvance := by
  intro s hs
  refine ⟨fun i hi => ?_, step_of_fetchInstr_eq_none⟩
  obtain ⟨u, hu⟩ := exists_handled_eq_advance_of_core s (hs ▸ wellFormed_of_fetchInstr hi)
  refine ⟨u.setPc (s.pc + BitVec.ofNat 16 i.length), ?_, rfl⟩
  rw [step_of_fetchInstr_eq_some hi]
  exact exec_next.2 (.inl ⟨u, hu, rfl⟩)

end Sys2Proof.Machine
end

section
/-!
Runs (40_dispatch.md R78; 70_reset_and_hazards.md R195): the end of a run in terms of single steps, and what every step
keeps kept by the whole run.
-/

namespace Sys2Proof.Machine

variable {n : Nat} {s t u : State}

/-- One step more, before the others. -/
theorem stepTimes_succ : stepTimes (n + 1) s = .next t ↔ ∃ u, step s = .next u ∧ stepTimes n u = .next t := by
  cases h : step s <;> simp [stepTimes, h]

theorem run_succ_of_next (n : Nat) (h : step s = .next u) : run (n + 1) s = run n u := by
  simp only [run, h]

theorem run_succ_of_fault (n : Nat) {f : Fault} (h : step s = .fault f) : run (n + 1) s = (.faulted f, s) := by
  simp only [run, h]

theorem run_succ_of_refused (n : Nat) {r : Refusal} (h : step s = .refused r) : run (n + 1) s = (.refused r, s) := by
  simp only [run, h]

/-- The three ends of a run, each with the single steps to its state and what a further step does there (R78). -/
inductive EndsAt (n : Nat) (s : State) : RunEnd × State → Prop
  | halted {t : State} (hsteps : stepTimes n s = .next t) : EndsAt n s (.halted, t)
  | faulted {k : Nat} {t : State} {f : Fault} (hk : k < n) (hsteps : stepTimes k s = .next t)
      (hf : step t = .fault f) : EndsAt n s (.faulted f, t)
  | refused {k : Nat} {t : State} {r : Refusal} (hk : k < n) (hsteps : stepTimes k s = .next t)
      (hr : step t = .refused r) : EndsAt n s (.refused r, t)

/-- An end reached from the next state is reached from the state before it, one step later. -/
theorem EndsAt.succ {e : RunEnd × State} (he : EndsAt n u e) (h : step s = .next u) : EndsAt (n + 1) s e := by
  cases he with
  | halted hsteps => exact .halted (stepTimes_succ.2 ⟨u, h, hsteps⟩)
  | faulted hk hsteps hf => exact .faulted (Nat.succ_lt_succ hk) (stepTimes_succ.2 ⟨u, h, hsteps⟩) hf
  | refused hk hsteps hr => exact .refused (Nat.succ_lt_succ hk) (stepTimes_succ.2 ⟨u, h, hsteps⟩) hr

/-- Every run comes to one of the three ends. -/
theorem run_endsAt (n : Nat) (s : State) : EndsAt n s (run n s) := by
  induction n generalizing s with
  | zero => exact .halted rfl
  | succ n ih =>
    cases h : step s with
    | next u =>
      rw [run_succ_of_next n h]
      exact (ih u).succ h
    | fault f =>
      rw [run_succ_of_fault n h]
      exact .faulted n.succ_pos rfl h
    | refused r =>
      rw [run_succ_of_refused n h]
      exact .refused n.succ_pos rfl h

/-- As many single steps as the halt allows are a run to the halt. -/
theorem run_of_stepTimes (h : stepTimes n s = .next t) : run n s = (.halted, t) := by
  induction n generalizing s with
  | zero =>
    cases h
    rfl
  | succ n ih =>
    obtain ⟨u, hu, hsteps⟩ := stepTimes_succ.1 h
    rw [run_succ_of_next n hu, ih hsteps]

/-- A run reaches the halt exactly where the single steps reach its state. -/
theorem run_eq_halted : run n s = (.halted, t) ↔ stepTimes n s = .next t := by
  refine ⟨fun h => ?_, run_of_stepTimes⟩
  cases h ▸ run_endsAt n s with
  | halted hsteps => exact hsteps

/-- Settles O10: the end of the run is one of the three. -/
theorem runStopsBeforeTheFirstStop : Obligations.RunStopsBeforeTheFirstStop := by
  refine fun n s t => ⟨fun f h => ?_, fun r h => ?_, run_eq_halted, fun h => ?_, fun ⟨u, hu⟩ => ?_⟩
  · cases h ▸ run_endsAt n s with
    | faulted hk hsteps hf => exact ⟨⟨_, hk, hsteps⟩, hf⟩
  · cases h ▸ run_endsAt n s with
    | refused hk hsteps hr => exact ⟨⟨_, hk, hsteps⟩, hr⟩
  · exact ⟨(run n s).2, run_eq_halted.1 (Prod.ext h rfl)⟩
  · rw [SafeRun, run_of_stepTimes hu]

/-- What every step keeps, a run keeps, however it ends. -/
theorem run_preserves {P : State → Prop} (hP : ∀ s t, step s = .next t → P s → P t) (n : Nat) {s : State}
    (hs : P s) : P (run n s).2 := by
  induction n generalizing s with
  | zero => exact hs
  | succ n ih =>
    cases h : step s with
    | next u =>
      rw [run_succ_of_next n h]
      exact ih (hP s u h hs)
    | fault f => rwa [run_succ_of_fault n h]
    | refused r => rwa [run_succ_of_refused n h]

/-- Settles O56: every step keeps the invariant and the configuration. -/
theorem runsKeepTheInvariant : Obligations.RunsKeepTheInvariant := by
  obtain ⟨hparams, -⟩ := stepKeepsTheConfiguration
  intro n s hs
  refine run_preserves (P := fun t => t.Inv ∧ t.params = s.params) (fun t u h ⟨hinv, hp⟩ => ?_) n ⟨hs, rfl⟩
  exact ⟨stepKeepsTheInvariant t u hinv h, (hparams t u h).trans hp⟩

end Sys2Proof.Machine
end

section
/-!
The addressing-mode resolver (41_addressing.md): the addresses it computes in exact arithmetic, where the two bytes of a
pointer lie, and the indexed modes at index 0.
-/

namespace Sys2Proof.Machine

/-- Extending a byte keeps its value. -/
@[simp] theorem toNat_zext (b : Byte) : (zext b).toNat = b.toNat :=
  BitVec.toNat_setWidth_of_le (by decide)

/-- Indexing a word by a byte wraps at 16 bits (R89, R90, R93). -/
theorem toNat_add_zext (w : Word) (index : Byte) : (w + zext index).toNat = (w.toNat + index.toNat) % 65536 := by
  rw [BitVec.toNat_add, toNat_zext]

/-- Indexing in the zero page wraps at 8 bits (R86, R87). -/
theorem toNat_zext_add (b index : Byte) : (zext (b + index)).toNat = (b.toNat + index.toNat) % 256 := by
  rw [toNat_zext, BitVec.toNat_add]

/-- Extending a byte by its sign keeps its signed value. -/
@[simp] theorem toInt_sext8 (b : Byte) : (sext8 b).toInt = b.toInt :=
  BitVec.toInt_signExtend_of_le (by decide)

/-- A word displaced by a signed byte is displaced by its signed value, modulo 65536 (R94). -/
theorem toNat_add_sext8 (w : Word) (b : Byte) :
    ((w + sext8 b).toNat : Int) = ((w.toNat : Int) + b.toInt) % 65536 := by
  have hoffset : ((sext8 b).toNat : Int) % 65536 = b.toInt % 65536 := by
    rw [← toInt_sext8 b, BitVec.toInt_eq_toNat_bmod]
    exact Int.bmod_emod.symm
  rw [BitVec.toNat_add, Int.natCast_emod, Int.natCast_add]
  exact Int.emod_add_cancel_left.2 hoffset

/-- Settles O21: each mode is one of the sums above. -/
theorem directModesInExactArithmetic : Obligations.DirectModesInExactArithmetic := by
  refine fun s b1 w => ⟨toNat_zext b1, toNat_zext_add b1 s.x, toNat_zext_add b1 s.y, rfl, toNat_add_zext w s.x,
    toNat_add_zext w s.y, ?_⟩
  have hnext : ((s.pc + 2).toNat : Int) = ((s.pc.toNat : Int) + 2) % 65536 := by simp
  rw [relative, toNat_add_sext8, hnext, Int.emod_add_emod]

/-- The mask 0xFF00 keeps a word's page. -/
theorem toNat_and_FF00 (w : Word) : (w &&& 0xFF00).toNat = w.toNat / 256 * 256 := by
  have hshift : w &&& (0xFF00 : Word) = w >>> 8 <<< 8 := (BitVec.shiftLeft_ushiftRight (x := w) (n := 8)).symm
  rw [hshift, BitVec.toNat_shiftLeft, BitVec.toNat_ushiftRight, Nat.shiftRight_eq_div_pow, Nat.shiftLeft_eq]
  omega

/-- The mask 0x00FF keeps a word's offset in its page. -/
theorem toNat_and_00FF (w : Word) : (w &&& 0x00FF).toNat = w.toNat % 256 :=
  Nat.and_two_pow_sub_one_eq_mod w.toNat 8

/-- The address after the pointer's, taken in the pointer's own page (R91). -/
theorem page_or_succ_offset_eq (ptr : Word) :
    (ptr &&& 0xFF00) ||| ((ptr + 1) &&& 0x00FF) =
      BitVec.ofNat 16 (ptr.toNat / 256 * 256 + (ptr.toNat + 1) % 256) := by
  have hlow : ((ptr + 1) &&& 0x00FF).toNat = (ptr.toNat + 1) % 256 := by
    rw [toNat_and_00FF, BitVec.toNat_add]
    exact Nat.mod_mod_of_dvd _ (by decide)
  have hor : ptr.toNat / 256 * 256 + (ptr.toNat + 1) % 256 = ptr.toNat / 256 * 256 ||| (ptr.toNat + 1) % 256 := by
    rw [Nat.mul_comm]
    exact Nat.two_pow_add_eq_or_of_lt (i := 8) (Nat.mod_lt _ (by decide)) _
  apply BitVec.eq_of_toNat_eq
  rw [BitVec.toNat_or, toNat_and_FF00, hlow, ← hor, BitVec.toNat_ofNat]
  omega

/-- Settles O22: the target's two bytes are the two bytes read. -/
theorem indirectModeStaysInThePage : Obligations.IndirectModeStaysInThePage := by
  intro s ptr
  rw [indirect, page_or_succ_offset_eq]
  exact ⟨lo8_word _ _, hi8_word _ _⟩

/-- Below 0xFF both settings of ZP_PTR_WRAP put the high byte at the next address (R92). -/
theorem toNat_pointerHigh_of_ne (wrap : ZpPtrWrap) {z : Byte} (hz : z ≠ 0xFF) :
    (pointerHigh wrap z).toNat = z.toNat + 1 := by
  have hlt : z.toNat + 1 < 256 := by bv_omega
  cases wrap with
  | linear =>
    rw [pointerHigh, BitVec.toNat_add, toNat_zext]
    exact Nat.mod_eq_of_lt (hlt.trans (by decide))
  | zeroPage =>
    rw [pointerHigh, toNat_zext_add]
    exact Nat.mod_eq_of_lt hlt

/-- The pointer's two bytes: one at z, one where the setting puts it (R92). -/
theorem zeroPagePointer_eq (z : Byte) (s : State) :
    zeroPagePointer z s = word (s.mem.read z.toNat) (s.mem.read (pointerHigh s.params.zpPtrWrap z).toNat) := by
  rw [zeroPagePointer, State.read, State.read, toNat_zext]

/-- Settles O23: the settings differ only in `pointerHigh`, and there at 0xFF only. -/
theorem zeroPagePointerByParameter : Obligations.ZeroPagePointerByParameter := by
  refine ⟨fun s z hz => ?_, fun s h => ?_, fun s h => ?_, fun s b1 => ⟨?_, toNat_add_zext _ s.y⟩⟩
  · rw [zeroPagePointer_eq, toNat_pointerHigh_of_ne _ hz]
  · rw [zeroPagePointer_eq, h]
    rfl
  · rw [zeroPagePointer_eq, h]
    rfl
  · rw [indexedIndirectX, BitVec.ofNat_add, BitVec.ofNat_toNat, BitVec.ofNat_toNat, BitVec.setWidth_eq,
      BitVec.setWidth_eq]

/-- Indexing a word by 0 leaves it (R96). -/
@[simp] theorem add_zext_zero (w : Word) : w + zext 0 = w := BitVec.add_zero w

/-- Settles O24: each indexed mode adds its index, in 16 bits or in 8. -/
theorem resolverLawsAtIndexZero : Obligations.ResolverLawsAtIndexZero := by
  refine fun s b1 w => ⟨fun hx => ⟨?_, ?_⟩, fun hy => ⟨?_, ?_, ?_⟩⟩
  · rw [absoluteX, hx, add_zext_zero, absolute]
  · rw [zeroPageX, hx, add_zero, zeroPage]
  · rw [absoluteY, hy, add_zext_zero, absolute]
  · rw [zeroPageY, hy, add_zero, zeroPage]
  · rw [indirectIndexedY, hy, add_zext_zero]

end Sys2Proof.Machine
end

section
/-!
Loads and stores (42_load_store.md R97 to R102): when bytes run as an instruction whose handler leaves PC to the
dispatcher, and what each of the loads and stores then leaves, whatever its addressing mode.
-/

namespace Sys2Proof.Machine

variable {i : Instr} {bytes : List Byte} {s u : State} {v : Byte} {ea : Word}

/-- Every instruction is decoded from its own encoding in the whole table. -/
theorem decode_full_encode (i : Instr) : decode .full (encode i) = .instr i [] := by
  have h := decodeOfEncodeIsTheInstruction .full i [] rfl
  rwa [List.append_nil] at h

/-- The encoding of an instruction whose handler advances runs as it: PC goes on by the number of bytes (R73). -/
theorem runsAs_of_advance (hbytes : encode i = bytes) (hu : handled i s = .advance u) :
    RunsAs i bytes s (u.setPc (s.pc + BitVec.ofNat 16 bytes.length)) := by
  subst hbytes
  exact ⟨decode_full_encode i, exec_next.2 (.inl ⟨u, hu, rfl⟩)⟩

/-- Every mode of LDA (R97). -/
theorem runsAs_of_handleLda (hbytes : encode i = bytes) (hv : handled i s = handleLda v s) :
    RunsAs i bytes s
      { s with
        a := v, flags := { s.flags with n := v.getLsbD 7, z := v == 0 }
        pc := s.pc + BitVec.ofNat 16 bytes.length } :=
  runsAs_of_advance hbytes hv

/-- Every mode of LDX (R98). -/
theorem runsAs_of_handleLdx (hbytes : encode i = bytes) (hv : handled i s = handleLdx v s) :
    RunsAs i bytes s
      { s with
        x := v, flags := { s.flags with n := v.getLsbD 7, z := v == 0 }
        pc := s.pc + BitVec.ofNat 16 bytes.length } :=
  runsAs_of_advance hbytes hv

/-- Every mode of LDY (R99). -/
theorem runsAs_of_handleLdy (hbytes : encode i = bytes) (hv : handled i s = handleLdy v s) :
    RunsAs i bytes s
      { s with
        y := v, flags := { s.flags with n := v.getLsbD 7, z := v == 0 }
        pc := s.pc + BitVec.ofNat 16 bytes.length } :=
  runsAs_of_advance hbytes hv

/-- Every mode of STA, STX and STY: one byte written and no other effect (R100, R101, R102). -/
theorem runsAs_of_store (hbytes : encode i = bytes) (hstore : handled i s = .advance (s.write ea v)) :
    RunsAs i bytes s
      { s with mem := s.mem.write ea.toNat v, pc := s.pc + BitVec.ofNat 16 bytes.length } :=
  runsAs_of_advance hbytes hstore

/-- Settles O25: each encoding hands `handleLda` the byte its mode reads. -/
theorem ldaLoadsTheAccumulator : Obligations.LdaLoadsTheAccumulator := by
  intro s b1 w lda
  refine ⟨?_, ?_, ?_, ?_, ?_, ?_, ?_, ?_⟩
  all_goals exact runsAs_of_handleLda rfl rfl

/-- Settles O26: the first five encodings hand `handleLdx` the byte their mode reads, the other five `handleLdy`. -/
theorem ldxAndLdyLoadTheIndexes : Obligations.LdxAndLdyLoadTheIndexes := by
  intro s b1 w ldx ldy
  refine ⟨?_, ?_, ?_, ?_, ?_, ?_, ?_, ?_, ?_, ?_⟩
  iterate 5 · exact runsAs_of_handleLdx rfl rfl
  all_goals exact runsAs_of_handleLdy rfl rfl

/-- Settles O27: each encoding's handler is one write, at the address its mode resolves in the state before it. -/
theorem storesWriteOneByte : Obligations.StoresWriteOneByte := by
  intro s b1 w stored
  refine ⟨?_, ?_, ?_, ?_, ?_, ?_, ?_, ?_, ?_, ?_, ?_, ?_, ?_⟩
  all_goals exact runsAs_of_store rfl rfl

end Sys2Proof.Machine
end

section
/-!
Transfers (43_transfer.md R103 to R108): a transfer to A, X or Y is the load of that register with the byte of the
source register, so the rules of the loads give it; TXS is the one transfer that writes no flag (90_conflicts.md C1).
-/

namespace Sys2Proof.Machine

/-- Settles O28: each transfer to A, X or Y hands its source to that register's load, and TXS only writes SP. -/
theorem transfersMoveARegister : Obligations.TransfersMoveARegister := by
  intro s flagsOf
  have tax : handled .tax s = handleLdx s.a s := rfl
  have tay : handled .tay s = handleLdy s.a s := rfl
  have tsx : handled .tsx s = handleLdx s.sp s := rfl
  have txa : handled .txa s = handleLda s.x s := rfl
  have tya : handled .tya s = handleLda s.y s := rfl
  have txs : handled .txs s = .advance (s.setSp s.x) := rfl
  exact ⟨runsAs_of_handleLdx rfl tax, runsAs_of_handleLdy rfl tay, runsAs_of_handleLdx rfl tsx,
    runsAs_of_handleLda rfl txa, runsAs_of_handleLda rfl tya, runsAs_of_advance rfl txs⟩

end Sys2Proof.Machine
end

section
/-!
The stack (44_stack.md R109 to R115, R159): what a push and a pull leave, and that a pull undoes a push for every SP,
0x00 among them, since both count SP modulo 256 (R111).
-/

namespace Sys2Proof.Machine

variable {i : Instr} {bytes : List Byte} {s : State}

/-- The stack address lies in page 1 for every SP: the sum does not wrap (10_state.md R19). -/
@[simp] theorem toNat_stackAddr (sp : Byte) : (stackAddr sp).toNat = 0x0100 + sp.toNat := by
  rw [stackAddr, toNat_add_zext]
  exact Nat.mod_eq_of_lt ((Nat.add_lt_add_left sp.isLt 0x0100).trans (by decide))

/-- A pull after a push answers the byte pushed and SP comes back, wherever PC went between them (R159). -/
theorem State.pull_push_setPc (v : Byte) (w : Word) (hs : s.Inv) :
    ((s.push v).setPc w).pull = (v, ((s.push v).setPc w).setSp s.sp) := by
  have hsp : ((s.push v).setPc w).sp + 1 = s.sp := BitVec.sub_add_cancel s.sp 1
  have hread : ((s.push v).setPc w).read (stackAddr s.sp) = v := Memory.read_write_same _ v hs
  rw [State.pull_eq, hsp, hread, State.setSp]

/-- Under FORCE_ONE, PHP pushes the packed flags with bit 4 set (R113). -/
theorem phpByte_of_forceOne (h : s.params.phpBBit = .forceOne) : phpByte s = s.flags.pack ||| 0x10 := by
  rw [phpByte, h]

/-- Under STORED, PHP pushes the packed flags as they are (R113). -/
theorem phpByte_of_stored (h : s.params.phpBBit = .stored) : phpByte s = s.flags.pack := by
  rw [phpByte, h]

/-- The packed flags with bit 4 set come back with B = 1 and every other flag as it was. -/
theorem Flags.unpack_pack_or_bit4 (f : Flags) : Flags.unpack (f.pack ||| 0x10) = { f with b := true } := by
  simp [Flags.unpack, Flags.pack]

/-- PHA and PHP: one byte stored at the stack address, then SP down by one (R112, R113). -/
theorem runsAs_of_push {v : Byte} (hbytes : encode i = bytes) (hpush : handled i s = .advance (s.push v)) :
    RunsAs i bytes s
      { s with
        mem := s.mem.write (0x0100 + s.sp.toNat) v, sp := s.sp - 1
        pc := s.pc + BitVec.ofNat 16 bytes.length } := by
  rw [← toNat_stackAddr]
  exact runsAs_of_advance hbytes hpush

/-- Settles O29: PHA pushes A, and PHP the byte its setting of PHP_B_BIT asks for. -/
theorem pushesStoreThenDecrement : Obligations.PushesStoreThenDecrement := by
  intro s pushed
  have php : RunsAs .php [0x08] s (pushed (phpByte s)) := runsAs_of_push rfl rfl
  refine ⟨runsAs_of_push rfl rfl, fun h => ?_, fun h => ?_⟩
  · rwa [phpByte_of_forceOne h] at php
  · rwa [phpByte_of_stored h] at php

/-- Settles O30: both pull the byte at the new stack address; PLA loads A with it and PLP unpacks it. -/
theorem pullsIncrementThenLoad : Obligations.PullsIncrementThenLoad := by
  intro s v
  have hv : s.pull.1 = v := congrArg s.mem.read (toNat_stackAddr (s.sp + 1))
  have pla : handled .pla s = .advance ((s.pull.2.setA s.pull.1).updateNz s.pull.1) := rfl
  have plp : handled .plp s = .advance (s.pull.2.setFlags (Flags.unpack s.pull.1)) := rfl
  rw [← hv]
  exact ⟨runsAs_of_advance rfl pla, runsAs_of_advance rfl plp⟩

/-- PHA runs as one push. -/
theorem exec_pha (s : State) : exec .pha s = .next ((s.push s.a).setPc (s.pc + 1)) :=
  exec_next.2 (.inl ⟨_, rfl, rfl⟩)

/-- PHP runs as one push. -/
theorem exec_php (s : State) : exec .php s = .next ((s.push (phpByte s)).setPc (s.pc + 1)) :=
  exec_next.2 (.inl ⟨_, rfl, rfl⟩)

/-- PLA puts the byte pulled in A and in N and Z, and leaves SP as the pull does. -/
theorem exec_pla_of_pull {t u : State} {v : Byte} (h : t.pull = (v, u)) :
    exec .pla t = .next (((u.setA v).updateNz v).setPc (t.pc + 1)) :=
  exec_next.2 (.inl ⟨_, by rw [handled, handlePla, h], rfl⟩)

/-- PLP puts the byte pulled in the flags, and leaves SP as the pull does. -/
theorem exec_plp_of_pull {t u : State} {v : Byte} (h : t.pull = (v, u)) :
    exec .plp t = .next ((u.setFlags (Flags.unpack v)).setPc (t.pc + 1)) :=
  exec_next.2 (.inl ⟨_, by rw [handled, handlePlp, h], rfl⟩)

/-- Settles O53: the pull undoes the push, so PLA loads A with A's own byte and PLP unpacks PHP's byte. -/
theorem pushThenPullGivesTheValueBack : Obligations.PushThenPullGivesTheValueBack := by
  intro s hs
  have pla := exec_pla_of_pull (State.pull_push_setPc s.a (s.pc + 1) hs)
  have plp := exec_plp_of_pull (State.pull_push_setPc (phpByte s) (s.pc + 1) hs)
  refine ⟨⟨_, _, exec_pha s, pla, rfl, rfl⟩, _, _, exec_php s, plp, rfl, fun h => ?_, fun h => ?_⟩
  · rw [State.setPc_flags, State.setFlags_flags, phpByte_of_forceOne h, Flags.unpack_pack_or_bit4]
  · rw [State.setPc_flags, State.setFlags_flags, phpByte_of_stored h, Flags.unpack_pack]

end Sys2Proof.Machine
end

section
/-!
Shifts and rotates (45_shift_rotate.md R116 to R119): a rotate turns the nine bits of C and a byte by one place, which
gives its exact arithmetic, a shift being the rotate of a 0 carry, and gives the state back after nine of them (R118).
-/

namespace Sys2Proof.Machine

variable {i : Instr} {bytes : List Byte} {op : Byte → Bool → Byte × Bool} {loc : Loc} {r : Byte} {c : Bool}
  {s : State}

/-- ROL leaves, C above the byte, what was the byte above C, each bit one place up (R118). -/
theorem cons_rolByte (v : Byte) (c : Bool) :
    BitVec.cons (rolByte v c).2 (rolByte v c).1 = BitVec.concat v c := by
  ext j hj
  cases c <;> interval_cases j <;> simp [rolByte, BitVec.getElem_cons, BitVec.getElem_concat]

/-- ROR leaves, the byte above C, what was C above the byte, each bit one place down (R119). -/
theorem concat_rorByte (v : Byte) (c : Bool) :
    BitVec.concat (rorByte v c).1 (rorByte v c).2 = BitVec.cons c v := by
  ext j hj
  cases c <;> interval_cases j <;> simp [rorByte, BitVec.getElem_cons, BitVec.getElem_concat]

/-- ROL in exact arithmetic (R118). -/
theorem rolByte_eq (v : Byte) (c : Bool) :
    rolByte v c = (BitVec.ofNat 8 (2 * v.toNat + c.toNat), v.getLsbD 7) := by
  have h := congrArg BitVec.toNat (cons_rolByte v c)
  rw [BitVec.toNat_cons', BitVec.toNat_concat, Nat.shiftLeft_eq] at h
  have hr : (rolByte v c).1 = BitVec.ofNat 8 (2 * v.toNat + c.toNat) := by
    apply BitVec.eq_of_toNat_eq
    rw [BitVec.toNat_ofNat]
    omega
  exact Prod.ext hr rfl

/-- ROR in exact arithmetic (R119). -/
theorem rorByte_eq (v : Byte) (c : Bool) :
    rorByte v c = (BitVec.ofNat 8 (v.toNat / 2 + 128 * c.toNat), v.getLsbD 0) := by
  have h := congrArg BitVec.toNat (concat_rorByte v c)
  rw [BitVec.toNat_cons', BitVec.toNat_concat, Nat.shiftLeft_eq] at h
  have hbit := (rorByte v c).2.toNat_lt
  have hr : (rorByte v c).1 = BitVec.ofNat 8 (v.toNat / 2 + 128 * c.toNat) := by
    apply BitVec.eq_of_toNat_eq
    rw [BitVec.toNat_ofNat]
    omega
  exact Prod.ext hr rfl

/-- ASL is ROL of a 0 carry (R116). -/
theorem aslByte_eq_rolByte (v : Byte) (c : Bool) : aslByte v c = rolByte v false := by
  simp [aslByte, rolByte]

/-- LSR is ROR of a 0 carry (R117). -/
theorem lsrByte_eq_rorByte (v : Byte) (c : Bool) : lsrByte v c = rorByte v false := by
  simp [lsrByte, rorByte]

/-- ASL in exact arithmetic (R116). -/
theorem aslByte_eq (v : Byte) (c : Bool) : aslByte v c = (BitVec.ofNat 8 (2 * v.toNat), v.getLsbD 7) :=
  (aslByte_eq_rolByte v c).trans (rolByte_eq v false)

/-- LSR in exact arithmetic (R117). -/
theorem lsrByte_eq (v : Byte) (c : Bool) : lsrByte v c = (BitVec.ofNat 8 (v.toNat / 2), v.getLsbD 0) :=
  (lsrByte_eq_rorByte v c).trans (rorByte_eq v false)

/-- Every mode of ASL, LSR, ROL and ROR: the result to its location, the bit moved out to C (R116 to R119). -/
theorem runsAs_of_shiftLoc (hbytes : encode i = bytes) (hi : handled i s = shiftLoc op loc s)
    (hop : op (s.readLoc loc) s.flags.c = (r, c)) :
    RunsAs i bytes s
      { s.writeLoc loc r with
        flags := { s.flags with n := r.getLsbD 7, z := r == 0, c := c }
        pc := s.pc + BitVec.ofNat 16 bytes.length } := by
  rw [shiftLoc_eq, hop] at hi
  exact runsAs_of_advance hbytes hi

/-- Settles O31: each encoding hands `shiftLoc` its location, the first of each five being A, and one byte operation. -/
theorem shiftsMoveTheBitOutToCarry : Obligations.ShiftsMoveTheBitOutToCarry := by
  intro s b1 w asl aslFlags aslMem lsr lsrFlags lsrMem
  refine ⟨runsAs_of_shiftLoc (loc := .regA) rfl rfl (aslByte_eq _ _), ?_, ?_, ?_, ?_,
    runsAs_of_shiftLoc (loc := .regA) rfl rfl (lsrByte_eq _ _), ?_, ?_, ?_, ?_⟩
  iterate 4 · exact runsAs_of_shiftLoc (loc := .mem _) rfl rfl (aslByte_eq _ _)
  all_goals exact runsAs_of_shiftLoc (loc := .mem _) rfl rfl (lsrByte_eq _ _)

/-- Settles O32: as for the shifts, with the byte operations that take the incoming carry. -/
theorem rotatesGoThroughCarry : Obligations.RotatesGoThroughCarry := by
  intro s b1 w rol rolFlags rolMem ror rorFlags rorMem
  refine ⟨runsAs_of_shiftLoc (loc := .regA) rfl rfl (rolByte_eq _ _), ?_, ?_, ?_, ?_,
    runsAs_of_shiftLoc (loc := .regA) rfl rfl (rorByte_eq _ _), ?_, ?_, ?_, ?_⟩
  iterate 4 · exact runsAs_of_shiftLoc (loc := .mem _) rfl rfl (rolByte_eq _ _)
  all_goals exact runsAs_of_shiftLoc (loc := .mem _) rfl rfl (rorByte_eq _ _)

/-- The nine bits that ROL and ROR rotate, from the byte and C: C above the byte. -/
def carryRing (p : Byte × Bool) : BitVec 9 := BitVec.cons p.2 p.1

/-- The ring holds the byte and C, each readable from it. -/
theorem carryRing_injective : Function.Injective carryRing :=
  Function.LeftInverse.injective (g := fun x => (x.setWidth 8, x.msb)) fun p => by simp [carryRing]

/-- ROL moves each bit of the ring up by one place, the top one to the bottom. -/
theorem getLsb_carryRing_rolByte (p : Byte × Bool) (j : Fin 9) :
    (carryRing (Function.uncurry rolByte p)).getLsb (j + 1) = (carryRing p).getLsb j := by
  rw [carryRing, Function.uncurry, cons_rolByte, carryRing]
  induction j using Fin.lastCases with
  | last => simp [BitVec.getElem_cons]
  | cast j => simp [BitVec.getElem_cons, j.isLt.ne]

/-- `n` ROLs move each bit of the ring up by `n` places. -/
theorem getLsb_carryRing_iterate_rolByte (p : Byte × Bool) (j : Fin 9) (n : ℕ) :
    (carryRing ((Function.uncurry rolByte)^[n] p)).getLsb ((· + 1)^[n] j) = (carryRing p).getLsb j := by
  induction n with
  | zero => rfl
  | succ n ih => rw [Function.iterate_succ_apply', Function.iterate_succ_apply', getLsb_carryRing_rolByte, ih]

/-- Nine ROLs bring each bit of the ring back to its place (R118). -/
theorem iterate_nine_rolByte (p : Byte × Bool) : (Function.uncurry rolByte)^[9] p = p := by
  have hnine : ∀ j : Fin 9, (· + 1)^[9] j = j := by decide
  apply carryRing_injective
  ext j hj
  have h := getLsb_carryRing_iterate_rolByte p ⟨j, hj⟩ 9
  rwa [hnine] at h

/-- ROL undoes ROR. -/
theorem rolByte_rorByte_leftInverse : (Function.uncurry rolByte).LeftInverse (Function.uncurry rorByte) :=
  fun p => carryRing_injective ((cons_rolByte _ _).trans (concat_rorByte p.1 p.2))

/-- Nine RORs change nothing, since nine ROLs undo them. -/
theorem iterate_nine_rorByte (p : Byte × Bool) : (Function.uncurry rorByte)^[9] p = p := by
  have h := rolByte_rorByte_leftInverse.iterate 9 p
  rwa [iterate_nine_rolByte] at h

/-- A and C from a byte and a carry, N and Z from the byte: what a shift or rotate of A writes, PC aside. -/
def State.setAC (s : State) (p : Byte × Bool) : State :=
  ((s.setFlags { s.flags with c := p.2 }).setA p.1).updateNz p.1

/-- ROL of A is `rolByte` on A and C. -/
theorem exec_rolAcc (s : State) :
    exec .rolAcc s = .next ((s.setAC (rolByte s.a s.flags.c)).setPc (s.pc + 1)) :=
  exec_next.2 (.inl ⟨_, rfl, rfl⟩)

/-- ROR of A is `rorByte` on A and C. -/
theorem exec_rorAcc (s : State) :
    exec .rorAcc s = .next ((s.setAC (rorByte s.a s.flags.c)).setPc (s.pc + 1)) :=
  exec_next.2 (.inl ⟨_, rfl, rfl⟩)

/-- An operation on A and C, executed `n + 1` times, is its iterate on A and C; N and Z come from the last result. -/
theorem execTimes_of_setAC (hi : ∀ t, exec i t = .next ((t.setAC (op t.a t.flags.c)).setPc (t.pc + 1))) (n : ℕ)
    (s : State) :
    execTimes i (n + 1) s =
      .next ((s.setAC ((Function.uncurry op)^[n + 1] (s.a, s.flags.c))).setPc (s.pc + BitVec.ofNat 16 (n + 1))) := by
  induction n generalizing s with
  | zero => rw [execTimes, hi]; rfl
  | succ n ih =>
    have hpc : s.pc + BitVec.ofNat 16 (n + 1 + 1) = s.pc + 1 + BitVec.ofNat 16 (n + 1) := by
      rw [Nat.add_comm (n + 1), BitVec.ofNat_add, BitVec.add_assoc]
      rfl
    rw [execTimes, hi, Function.iterate_succ_apply _ (n + 1), hpc]
    exact ih _

/-- Settles O52: nine rotates leave A and C as they were, so N and Z come from A. -/
theorem nineRotatesRestore : Obligations.NineRotatesRestore := by
  intro s i hi
  have hcases : i = .rolAcc ∨ i = .rorAcc := by simpa using hi
  rcases hcases with rfl | rfl
  · rw [execTimes_of_setAC exec_rolAcc, iterate_nine_rolByte]
    rfl
  · rw [execTimes_of_setAC exec_rorAcc, iterate_nine_rorByte]
    rfl

end Sys2Proof.Machine
end

section
/-!
Additions and the decimal gate (46_ext_alu.md R120 to R122): what a closed gate refuses, nothing else refusing, and what
the addition behind an open gate leaves, in exact and in signed arithmetic, SBC adding the one's complement.
-/

namespace Sys2Proof.Machine

variable {i : Instr} {bytes : List Byte} {s t u : State} {m : Byte}

/-- The handler of every ADC and SBC is an addition behind the decimal gate. -/
theorem exists_handled_eq_decimalGate (hi : i.mnemonic ∈ [.adc, .sbc]) (s : State) :
    ∃ m, handled i s = decimalGate s (.advance (s.addToA m)) := by
  cases i
  case adcImm | adcZp | adcZpx | adcAbs | adcAbx | adcAby | adcIzx | adcIzy
      | sbcImm | sbcZp | sbcZpx | sbcAbs | sbcAbx | sbcAby | sbcIzx | sbcIzy =>
    exact ⟨_, rfl⟩
  all_goals simp [Instr.mnemonic] at hi

/-- With D = 1 under REFUSE the gate is closed (R120). -/
theorem decimalGate_of_closed (hd : s.flags.d = true) (hr : s.params.decimalMode = .refuse) (h : Handled) :
    decimalGate s h = .unmodelledDecimal := by
  rw [decimalGate_eq, if_pos ⟨hd, hr⟩]

/-- With D = 0 or under BINARY the gate is open (R120). -/
theorem decimalGate_of_open (hopen : s.flags.d = false ∨ s.params.decimalMode = .binary) (h : Handled) :
    decimalGate s h = h := by
  rw [decimalGate_eq, if_neg]
  rintro ⟨hd, hr⟩
  simp [hd, hr] at hopen

/-- Only ADC and SBC refuse, at a closed gate. -/
theorem closed_of_handled_eq_unmodelledDecimal (h : handled i s = .unmodelledDecimal) :
    i.mnemonic ∈ [.adc, .sbc] ∧ s.flags.d = true ∧ s.params.decimalMode = .refuse := by
  cases h ▸ handled_answers i s with
  | unmodelledDecimal hm hd hr => exact ⟨hm, hd, hr⟩

/-- The opcode that a refusal carries is the first byte of the encoding (R171). -/
theorem opcodeOf_of_head?_encode {op : Byte} (h : (encode i).head? = some op) : opcodeOf i = op := by
  rw [opcodeOf, List.headD_eq_head?_getD, h, Option.getD_some]

/-- A CORE step advances or faults, so a step that refuses is in FULL (R172). -/
theorem profile_eq_full_of_step_eq_refused {r : Refusal} (h : step s = .refused r) : s.params.profile = .full := by
  cases hp : s.params.profile with
  | full => rfl
  | core =>
    obtain ⟨hnext, hfault⟩ := coreProfileStepsAdvance s hp
    cases hf : fetchInstr s with
    | none => cases (hfault hf).symm.trans h
    | some i =>
      obtain ⟨t, ht, -⟩ := hnext i hf
      cases ht.symm.trans h

/-- Settles O36: the gate is the one source of a refusal, only ADC and SBC stand behind it, and CORE has neither. -/
theorem decimalGateRefuses : Obligations.DecimalGateRefuses := by
  refine ⟨fun s i op hi hop hd hr => ?_, fun s i r h => ?_, fun s r => profile_eq_full_of_step_eq_refused,
    fun n s r => run_succ_of_refused n⟩
  · obtain ⟨m, hm⟩ := exists_handled_eq_decimalGate hi s
    rw [← opcodeOf_of_head?_encode hop, exec_refused]
    exact ⟨hm.trans (decimalGate_of_closed hd hr _), rfl⟩
  · exact closed_of_handled_eq_unmodelledDecimal (exec_refused.1 h).1

/-- The exact sum of ADC as the sum of three numbers (R121). -/
theorem exactSum_eq (a m : Byte) (c : Bool) : exactSum a m c = a.toNat + m.toNat + c.toNat := by
  cases c <;> rfl

/-- V of an addition: the operands have one sign and the result the other (R121). -/
theorem overflow_eq_msb_beq_and_bne (a m r : Byte) : overflow a m r = (a.msb == m.msb && r.msb != a.msb) := by
  rw [overflow_eq]
  cases a.msb <;> cases m.msb <;> cases r.msb <;> rfl

/-- All that the addition to A leaves, in exact arithmetic (R121). -/
theorem State.addToA_eq (s : State) (m : Byte) :
    s.addToA m =
      let sum : Nat := s.a.toNat + m.toNat + s.flags.c.toNat
      let r : Byte := BitVec.ofNat 8 sum
      { s with
        a := r
        flags := { s.flags with
          n := r.getLsbD 7, z := r == 0, c := decide (255 < sum), v := s.a.msb == m.msb && r.msb != s.a.msb } } := by
  rw [State.addToA, Flags.afterAdd, overflow_eq_msb_beq_and_bne, exactSum_eq]
  rfl

/-- An addition overflows exactly where the signed sum leaves -128..127 (R121, R160). -/
theorem overflow_exactSum (a m : Byte) (c : Bool) :
    overflow a m (BitVec.ofNat 8 (exactSum a m c)) =
      decide (a.toInt + m.toInt + c.toNat < -128 ∨ 127 < a.toInt + m.toInt + c.toNat) := by
  have ha := a.isLt
  have hm := m.isLt
  have hc := c.toNat_lt
  rw [overflow_eq, exactSum_eq, Bool.eq_iff_iff]
  simp only [BitVec.msb_eq_decide, BitVec.toInt_eq_toNat_cond, BitVec.toNat_ofNat, Bool.and_eq_true, bne_iff_ne, ne_eq,
    decide_eq_decide, decide_eq_true_eq]
  omega

/-- A next state of ADC or SBC has the flags of the addition. -/
theorem flags_eq_afterAdd_of_exec_next (hi : handled i s = decimalGate s (.advance (s.addToA m)))
    (h : exec i s = .next t) : t.flags = s.flags.afterAdd s.a m := by
  rw [exec_eq, hi, decimalGate_eq] at h
  split at h
  next => cases h
  next =>
    cases h
    rfl

/-- Settles O35: V is the overflow of the sum that ADC writes to A. -/
theorem adcOverflowIsSignedOverflow : Obligations.AdcOverflowIsSignedOverflow := by
  intro s t m h sum
  have hv : t.flags.v = overflow s.a m (BitVec.ofNat 8 (exactSum s.a m s.flags.c)) :=
    congrArg Flags.v (flags_eq_afterAdd_of_exec_next rfl h)
  rw [hv, overflow_exactSum, decide_eq_true_eq]

/-- The one's complement of a byte as a number. -/
theorem toNat_xor_FF (m : Byte) : (m ^^^ 0xFF).toNat = 255 - m.toNat := by
  have h : m ^^^ 0xFF = ~~~m := BitVec.xor_allOnes
  rw [h, BitVec.toNat_not]

/-- The one's complement of a byte as a signed number. -/
theorem toInt_xor_FF (m : Byte) : (m ^^^ 0xFF).toInt = -m.toInt - 1 := by
  have hm := m.isLt
  simp only [BitVec.toInt_eq_toNat_cond, toNat_xor_FF]
  omega

/-- Adding the one's complement and C is subtracting the byte and the borrow, modulo 256 (R122). -/
theorem ofNat_exactSum_xor_FF (a m : Byte) (c : Bool) :
    BitVec.ofNat 8 (exactSum a (m ^^^ 0xFF) c) = a - m - BitVec.ofNat 8 (1 - c.toNat) := by
  have hm := m.isLt
  have hc := c.toNat_lt
  apply BitVec.eq_of_toNat_eq
  rw [exactSum_eq, toNat_xor_FF, BitVec.toNat_sub, BitVec.toNat_sub, BitVec.toNat_ofNat, BitVec.toNat_ofNat]
  omega

/-- It carries out exactly where the subtraction does not borrow (R122). -/
theorem carryOut_exactSum_xor_FF (a m : Byte) (c : Bool) :
    carryOut (exactSum a (m ^^^ 0xFF) c) = decide (m.toNat + (1 - c.toNat) ≤ a.toNat) := by
  have hm := m.isLt
  have hc := c.toNat_lt
  rw [carryOut, exactSum_eq, toNat_xor_FF, decide_eq_decide]
  omega

/-- It overflows exactly where the signed difference leaves -128..127 (R122). -/
theorem overflow_exactSum_xor_FF (a m : Byte) (c : Bool) :
    overflow a (m ^^^ 0xFF) (BitVec.ofNat 8 (exactSum a (m ^^^ 0xFF) c)) =
      decide (a.toInt - m.toInt - (1 - c.toNat : Nat) < -128 ∨ 127 < a.toInt - m.toInt - (1 - c.toNat : Nat)) := by
  have hc := c.toNat_lt
  rw [overflow_exactSum, toInt_xor_FF, decide_eq_decide]
  omega

/-- All that the addition of the one's complement leaves, as a subtraction with borrow (R122). -/
theorem State.addToA_xor_FF (s : State) (m : Byte) :
    s.addToA (m ^^^ 0xFF) =
      let borrow : Nat := 1 - s.flags.c.toNat
      let r : Byte := s.a - m - BitVec.ofNat 8 borrow
      let d : Int := s.a.toInt - m.toInt - borrow
      { s with
        a := r
        flags := { s.flags with
          n := r.getLsbD 7, z := r == 0, c := decide (m.toNat + borrow ≤ s.a.toNat)
          v := decide (d < -128 ∨ 127 < d) } } := by
  rw [State.addToA, Flags.afterAdd, overflow_exactSum_xor_FF, carryOut_exactSum_xor_FF, ofNat_exactSum_xor_FF]
  rfl

/-- Every mode of ADC and SBC runs where the gate is open: what is behind it, then the advance of PC. -/
theorem runsAs_of_decimalGate (hopen : s.flags.d = false ∨ s.params.decimalMode = .binary) (hbytes : encode i = bytes)
    (hi : handled i s = decimalGate s (.advance u)) :
    RunsAs i bytes s (u.setPc (s.pc + BitVec.ofNat 16 bytes.length)) :=
  runsAs_of_advance hbytes (hi.trans (decimalGate_of_open hopen _))

/-- Settles O33: each encoding adds to A the byte its mode reads. -/
theorem adcAddsWithCarry : Obligations.AdcAddsWithCarry := by
  intro s b1 w hopen added
  have hadded (len : Word) (m : Byte) : added len m = (s.addToA m).setPc (s.pc + len) := by
    rw [State.addToA_eq]
    rfl
  simp only [hadded]
  refine ⟨?_, ?_, ?_, ?_, ?_, ?_, ?_, ?_⟩
  all_goals exact runsAs_of_decimalGate hopen rfl rfl

/-- Settles O34: each encoding adds to A the one's complement of the byte its mode reads. -/
theorem sbcSubtractsWithBorrow : Obligations.SbcSubtractsWithBorrow := by
  intro s b1 w hopen subtracted
  have hsubtracted (len : Word) (m : Byte) : subtracted len m = (s.addToA (m ^^^ 0xFF)).setPc (s.pc + len) := by
    rw [State.addToA_xor_FF]
    rfl
  simp only [hsubtracted]
  refine ⟨?_, ?_, ?_, ?_, ?_, ?_, ?_, ?_⟩
  all_goals exact runsAs_of_decimalGate hopen rfl rfl

end Sys2Proof.Machine
end

section
/-!
Logic, compares, BIT and counting (46_ext_alu.md R123 to R135): a result put in A, X or Y with its N and Z is the load
of that register, so the rules of the loads give the logic instructions and the register counts; the others write flags
alone, or flags and one byte of memory.
-/

namespace Sys2Proof.Machine

variable {i : Instr} {bytes : List Byte} {s : State} {reg m r : Byte} {ea : Word}

/-- Settles O37: each encoding loads A with A combined with the byte its mode reads. -/
theorem logicInstructionsCombineWithA : Obligations.LogicInstructionsCombineWithA := by
  intro s b1 w setA
  refine ⟨?_, ?_, ?_, ?_, ?_, ?_, ?_, ?_, ?_, ?_, ?_, ?_, ?_, ?_, ?_, ?_, ?_, ?_, ?_, ?_, ?_, ?_, ?_, ?_⟩
  all_goals exact runsAs_of_handleLda rfl rfl

/-- Every mode of CMP, CPX and CPY: the flags of the comparison and no other effect (R126, R127, R128). -/
theorem runsAs_of_afterCompare (hbytes : encode i = bytes)
    (hi : handled i s = .advance (s.setFlags (s.flags.afterCompare reg m))) :
    RunsAs i bytes s
      { s with
        flags := { s.flags with c := decide (m.toNat ≤ reg.toNat), z := reg == m, n := (reg - m).getLsbD 7 }
        pc := s.pc + BitVec.ofNat 16 bytes.length } := by
  rw [Flags.afterCompare_eq] at hi
  exact runsAs_of_advance hbytes hi

/-- Settles O38: each encoding compares its register with the byte its mode reads. -/
theorem comparesSetCarryZeroNegative : Obligations.ComparesSetCarryZeroNegative := by
  intro s b1 w compared
  refine ⟨?_, ?_, ?_, ?_, ?_, ?_, ?_, ?_, ?_, ?_, ?_, ?_, ?_, ?_⟩
  all_goals exact runsAs_of_afterCompare rfl rfl

/-- Both modes of BIT: the flags of the test and no other effect (R129). -/
theorem runsAs_of_handleBit (hbytes : encode i = bytes) (hi : handled i s = handleBit m s) :
    RunsAs i bytes s
      { s with
        flags := { s.flags with z := s.a &&& m == 0, n := m.getLsbD 7, v := m.getLsbD 6 }
        pc := s.pc + BitVec.ofNat 16 bytes.length } :=
  runsAs_of_advance hbytes hi

/-- Settles O39: both encodings hand `handleBit` the byte their mode reads. -/
theorem bitTestsWithoutWriting : Obligations.BitTestsWithoutWriting := by
  intro s b1 w tested
  exact ⟨runsAs_of_handleBit rfl rfl, runsAs_of_handleBit rfl rfl⟩

/-- Every mode of INC and DEC: one byte written, N and Z from it (R130, R131). -/
theorem runsAs_of_writeNz (hbytes : encode i = bytes) (hi : handled i s = .advance (s.writeNz ea r)) :
    RunsAs i bytes s
      { s with
        mem := s.mem.write ea.toNat r, flags := { s.flags with n := r.getLsbD 7, z := r == 0 }
        pc := s.pc + BitVec.ofNat 16 bytes.length } :=
  runsAs_of_advance hbytes hi

/-- Settles O40: each encoding writes back the byte at its mode's address, one more or one less. -/
theorem incAndDecCountMemory : Obligations.IncAndDecCountMemory := by
  intro s b1 w stored
  refine ⟨?_, ?_, ?_, ?_, ?_, ?_, ?_, ?_⟩
  all_goals exact runsAs_of_writeNz rfl rfl

/-- Settles O41: each count loads its register with the register's own value, one more or one less. -/
theorem indexRegistersCount : Obligations.IndexRegistersCount := by
  intro s flagsOf
  have inx : handled .inx s = handleLdx (s.x + 1) s := rfl
  have iny : handled .iny s = handleLdy (s.y + 1) s := rfl
  have dex : handled .dex s = handleLdx (s.x - 1) s := rfl
  have dey : handled .dey s = handleLdy (s.y - 1) s := rfl
  exact ⟨runsAs_of_handleLdx rfl inx, runsAs_of_handleLdy rfl iny, runsAs_of_handleLdx rfl dex,
    runsAs_of_handleLdy rfl dey⟩

end Sys2Proof.Machine
end

section
/-!
Branches, jumps, subroutines and the software break (47_ext_control.md R136 to R149): an instruction that writes PC runs
as its handler leaves it, the stack bytes of a return address lie in exact arithmetic, and RTS undoes JSR and RTI undoes
BRK for every SP, since pushes and pulls count SP modulo 256 and a push touches no other stack byte.
-/

namespace Sys2Proof.Machine

variable {i : Instr} {bytes : List Byte} {s u : State} {target : Word} {taken : Bool}

/-- The encoding of an instruction whose handler jumps runs as it: PC stays as the handler wrote it (R72). -/
theorem runsAs_of_jumped (hbytes : encode i = bytes) (hu : handled i s = .jumped u) : RunsAs i bytes s u := by
  subst hbytes
  exact ⟨decode_full_encode i, exec_next.2 (.inr hu)⟩

/-- Every branch: its target where taken, else the instruction after it, and no other effect (R136). -/
theorem runsAs_of_branch (hbytes : encode i = bytes) (hi : handled i s = branch taken target s) :
    RunsAs i bytes s { s with pc := if taken then target else s.pc + BitVec.ofNat 16 bytes.length } := by
  cases taken with
  | true => exact runsAs_of_jumped hbytes hi
  | false => exact runsAs_of_advance hbytes hi

/-- Settles O42: each encoding hands `branch` the test of its flag and the relative target. -/
theorem branchesAssignPcOnTheirFlag : Obligations.BranchesAssignPcOnTheirFlag := by
  intro s b1 branched
  simp only [beq_false, beq_true]
  refine ⟨?_, ?_, ?_, ?_, ?_, ?_, ?_, ?_⟩
  all_goals exact runsAs_of_branch rfl rfl

/-- Where pushing a word puts its two bytes, as numbers (20_memory.md R42, 44_stack.md R111). -/
theorem State.pushWord_toNat (s : State) (w : Word) :
    s.pushWord w =
      { s with
        mem := (s.mem.write (0x0100 + s.sp.toNat) (hi8 w)).write (0x0100 + (s.sp - 1).toNat) (lo8 w)
        sp := s.sp - 2 } := by
  have hsp : s.sp - 1 - 1 = s.sp - 2 := BitVec.sub_sub _ _ _
  rw [State.pushWord_eq, toNat_stackAddr, toNat_stackAddr, hsp]

/-- Where pulling a word finds its two bytes, as numbers. -/
theorem State.pullWord_toNat (s : State) :
    s.pullWord =
      (word (s.mem.read (0x0100 + (s.sp + 1).toNat)) (s.mem.read (0x0100 + (s.sp + 2).toNat)),
        { s with sp := s.sp + 2 }) := by
  have hsp : s.sp + 1 + 1 = s.sp + 2 := BitVec.add_assoc _ _ _
  rw [State.pullWord_eq, State.read, State.read, toNat_stackAddr, toNat_stackAddr, hsp]

/-- Settles O43: JMP only jumps, JSR pushes a word before it does, and RTS pulls one. -/
theorem jumpsAndSubroutines : Obligations.JumpsAndSubroutines := by
  intro s w
  have jsr : handled (.jsr w) s = (s.pushWord (s.pc + 2)).jump w := rfl
  have rts : handled .rts s = s.pullWord.2.jump (s.pullWord.1 + 1) := rfl
  rw [State.pushWord_toNat] at jsr
  rw [State.pullWord_toNat] at rts
  exact ⟨runsAs_of_jumped rfl rfl, runsAs_of_jumped rfl rfl, runsAs_of_jumped rfl jsr, runsAs_of_jumped rfl rts⟩

/-- The memory a break leaves, its addresses as numbers (R148). -/
theorem State.enterBreak_mem_toNat (s : State) :
    s.enterBreak.mem =
      ((s.mem.write (0x0100 + s.sp.toNat) (hi8 (s.pc + 2))).write (0x0100 + (s.sp - 1).toNat) (lo8 (s.pc + 2))).write
        (0x0100 + (s.sp - 2).toNat) (s.flags.pack ||| 0x10) := by
  have hsp : s.sp - 1 - 1 = s.sp - 2 := BitVec.sub_sub _ _ _
  rw [State.enterBreak_mem, toNat_stackAddr, toNat_stackAddr, toNat_stackAddr, hsp]

/-- Settles O44: BRK's handler enters a break and RTI's leaves one. -/
theorem breakEntersAndRtiReturns : Obligations.BreakEntersAndRtiReturns := by
  intro s b1 m
  have hm : s.enterBreak.mem = m := s.enterBreak_mem_toNat
  have hdown : s.sp - 1 - 1 - 1 = s.sp - 3 := by bv_omega
  have hup₂ : s.sp + 1 + 1 = s.sp + 2 := BitVec.add_assoc _ _ _
  have hup₃ : s.sp + 2 + 1 = s.sp + 3 := BitVec.add_assoc _ _ _
  have brk : handled (.brk b1) s = .jumped s.enterBreak := rfl
  have rti : handled .rti s = .jumped s.leaveBreak := rfl
  rw [State.enterBreak_eq, hm, hdown] at brk
  simp only [State.leaveBreak_eq, State.read, toNat_stackAddr, hup₂, hup₃] at rti
  exact ⟨runsAs_of_jumped rfl brk, runsAs_of_jumped rfl rti⟩

/-- A push shows at its own stack address and at no other (R109). -/
theorem State.read_stackAddr_push (v sp : Byte) (hs : s.Inv) :
    (s.push v).read (stackAddr sp) = if sp = s.sp then v else s.read (stackAddr sp) := by
  rw [State.push_eq, State.read, Memory.read_write_word _ _ _ hs]
  simp only [stackAddr_inj, State.read]

@[simp] theorem State.push_sp (s : State) (v : Byte) : (s.push v).sp = s.sp - 1 := rfl
@[simp] theorem State.pushWord_sp (s : State) (w : Word) : (s.pushWord w).sp = s.sp - 1 - 1 := rfl

/-- The first byte of a pushed word is its high byte. -/
theorem State.read_stackAddr_pushWord_hi (w : Word) (hs : s.Inv) :
    (s.pushWord w).read (stackAddr s.sp) = hi8 w := by
  have hne : s.sp ≠ s.sp - 1 := by bv_omega
  rw [State.pushWord, State.read_stackAddr_push _ _ (s.push_wf _ hs), State.push_sp, if_neg hne,
    State.read_stackAddr_push _ _ hs, if_pos rfl]

/-- The second byte of a pushed word is its low byte. -/
theorem State.read_stackAddr_pushWord_lo (w : Word) (hs : s.Inv) :
    (s.pushWord w).read (stackAddr (s.sp - 1)) = lo8 w := by
  rw [State.pushWord, State.read_stackAddr_push _ _ (s.push_wf _ hs), State.push_sp, if_pos rfl]

/-- Pulling a word after pushing one answers it and leaves the state before the push but for the bytes stored, wherever
PC went between them. -/
theorem State.pullWord_pushWord_setPc (w pc : Word) (hs : s.Inv) :
    ((s.pushWord w).setPc pc).pullWord = (w, { s with pc := pc, mem := (s.pushWord w).mem }) := by
  have hsp₁ : ((s.pushWord w).setPc pc).sp + 1 = s.sp - 1 := BitVec.sub_add_cancel _ 1
  have hsp₂ : s.sp - 1 + 1 = s.sp := BitVec.sub_add_cancel _ 1
  have hlo : ((s.pushWord w).setPc pc).read (stackAddr (s.sp - 1)) = lo8 w := State.read_stackAddr_pushWord_lo w hs
  have hhi : ((s.pushWord w).setPc pc).read (stackAddr s.sp) = hi8 w := State.read_stackAddr_pushWord_hi w hs
  rw [State.pullWord_eq, hsp₁, hsp₂, hlo, hhi, word_lo8_hi8, State.pushWord_eq]
  rfl

/-- JSR runs as one push of a word and one write of PC. -/
theorem exec_jsr (s : State) (w : Word) : exec (.jsr w) s = .next ((s.pushWord (s.pc + 2)).setPc w) :=
  exec_next.2 (.inr rfl)

/-- RTS makes PC the word pulled plus one, and leaves SP as the pull does. -/
theorem exec_rts_of_pullWord {w : Word} (h : s.pullWord = (w, u)) : exec .rts s = .next (u.setPc (w + 1)) :=
  exec_next.2 (.inr (by rw [handled, handleRts, h, State.jump]))

/-- Settles O54: RTS pulls the word that JSR pushed. -/
theorem jsrThenRtsReturns : Obligations.JsrThenRtsReturns := by
  intro s w hs
  have hpc : s.pc + 2 + 1 = s.pc + 3 := BitVec.add_assoc _ _ _
  have rts := exec_rts_of_pullWord (State.pullWord_pushWord_setPc (s.pc + 2) w hs)
  rw [hpc] at rts
  exact ⟨_, _, exec_jsr s w, rfl, rts, rfl⟩

/-! Entering a break writes no register but SP and PC, and no configuration. -/

@[simp] theorem State.enterBreak_a (s : State) : s.enterBreak.a = s.a := by rw [State.enterBreak_eq]
@[simp] theorem State.enterBreak_x (s : State) : s.enterBreak.x = s.x := by rw [State.enterBreak_eq]
@[simp] theorem State.enterBreak_y (s : State) : s.enterBreak.y = s.y := by rw [State.enterBreak_eq]
@[simp] theorem State.enterBreak_sp (s : State) : s.enterBreak.sp = s.sp - 1 - 1 - 1 := by rw [State.enterBreak_eq]
@[simp] theorem State.enterBreak_params (s : State) : s.enterBreak.params = s.params := by rw [State.enterBreak_eq]

/-- The stack that a break leaves: the packed flags with bit 4 set on top of the return address (R148). -/
theorem State.read_stackAddr_enterBreak (sp : Byte) (hs : s.Inv) :
    s.enterBreak.read (stackAddr sp) =
      if sp = s.sp - 1 - 1 then s.flags.pack ||| 0x10 else (s.pushWord (s.pc + 2)).read (stackAddr sp) := by
  have hmem : s.enterBreak.mem = ((s.pushWord (s.pc + 2)).push (s.flags.pack ||| 0x10)).mem := rfl
  rw [State.read, hmem, ← State.read, State.read_stackAddr_push _ _ (s.pushWord_wf _ hs), State.pushWord_sp]

/-- Leaving the break just entered gives the state before it, with PC past BRK, B set and the stack bytes written: the
byte pulled first is the packed flags, and the next two are the word that `pushWord` put there. -/
theorem State.leaveBreak_enterBreak (hs : s.Inv) :
    s.enterBreak.leaveBreak =
      { s with pc := s.pc + 2, flags := { s.flags with b := true }, mem := s.enterBreak.mem } := by
  have hsp₁ : s.enterBreak.sp + 1 = s.sp - 1 - 1 := by rw [State.enterBreak_sp, BitVec.sub_add_cancel]
  have hsp₂ : s.sp - 1 - 1 + 1 = s.sp - 1 := BitVec.sub_add_cancel _ 1
  have hsp₃ : s.sp - 1 + 1 = s.sp := BitVec.sub_add_cancel _ 1
  have hne₂ : s.sp - 1 ≠ s.sp - 1 - 1 := by bv_omega
  have hne₃ : s.sp ≠ s.sp - 1 - 1 := by bv_omega
  have hflags : s.enterBreak.read (stackAddr (s.sp - 1 - 1)) = s.flags.pack ||| 0x10 := by
    rw [State.read_stackAddr_enterBreak _ hs, if_pos rfl]
  have hlo : s.enterBreak.read (stackAddr (s.sp - 1)) = lo8 (s.pc + 2) := by
    rw [State.read_stackAddr_enterBreak _ hs, if_neg hne₂, State.read_stackAddr_pushWord_lo _ hs]
  have hhi : s.enterBreak.read (stackAddr s.sp) = hi8 (s.pc + 2) := by
    rw [State.read_stackAddr_enterBreak _ hs, if_neg hne₃, State.read_stackAddr_pushWord_hi _ hs]
  rw [State.leaveBreak_eq, hsp₁, hsp₂, hsp₃, hflags, hlo, hhi, word_lo8_hi8, Flags.unpack_pack_or_bit4,
    State.enterBreak_a, State.enterBreak_x, State.enterBreak_y, State.enterBreak_params]

/-- Settles O55: RTI leaves the break that BRK entered. -/
theorem brkThenRtiReturns : Obligations.BrkThenRtiReturns :=
  fun s _ hs => ⟨s.enterBreak, s.enterBreak.leaveBreak, exec_next.2 (.inr rfl), exec_next.2 (.inr rfl),
    State.leaveBreak_enterBreak hs⟩

end Sys2Proof.Machine
end

section
/-!
Flag instructions and NOP (48_ext_flags_misc.md R151 to R158): one write of the flags, or none.
-/

namespace Sys2Proof.Machine

variable {i : Instr} {bytes : List Byte} {s : State} {f : Flags}

/-- Every instruction whose handler only writes flags: PC goes on and nothing else changes. -/
theorem runsAs_of_setFlags (hbytes : encode i = bytes) (hi : handled i s = .advance (s.setFlags f)) :
    RunsAs i bytes s { s with flags := f, pc := s.pc + BitVec.ofNat 16 bytes.length } :=
  runsAs_of_advance hbytes hi

/-- Settles O45: the seven write their one flag, and NOP's handler answers the state it is given. -/
theorem flagInstructionsWriteOneFlag : Obligations.FlagInstructionsWriteOneFlag := by
  intro s
  have nop : handled .nop s = .advance s := rfl
  refine ⟨?_, ?_, ?_, ?_, ?_, ?_, ?_, runsAs_of_advance rfl nop⟩
  all_goals exact runsAs_of_setFlags rfl rfl

end Sys2Proof.Machine
end

section
/-!
The stops of a step (60_exceptions.md R170 to R175): a fault comes only from the fetch, and a refusal only from the
instruction fetched.
-/

namespace Sys2Proof.Machine

variable {s : State} {i : Instr}

/-- A step that faults fetched nothing, since no instruction faults. -/
theorem step_fault {f : Fault} (h : step s = .fault f) :
    fetchInstr s = none ∧ f = .decodeFault s.pc (s.read s.pc) := by
  cases hf : fetchInstr s with
  | none =>
    rw [step_of_fetchInstr_eq_none hf] at h
    cases h
    exact ⟨rfl, rfl⟩
  | some i =>
    rw [step_of_fetchInstr_eq_some hf] at h
    exact absurd h (exec_not_fault i s f)

/-- A step that refuses ran the instruction at PC, which refused. -/
theorem step_refused {r : Refusal} (h : step s = .refused r) : ∃ i, fetchInstr s = some i ∧ exec i s = .refused r := by
  cases hf : fetchInstr s with
  | none =>
    rw [step_of_fetchInstr_eq_none hf] at h
    cases h
  | some i =>
    rw [step_of_fetchInstr_eq_some hf] at h
    exact ⟨i, rfl, h⟩

/-- The opcode of the instruction fetched is the byte at PC: the bytes from PC on are its encoding. -/
theorem opcodeOf_of_fetchInstr (h : fetchInstr s = some i) : opcodeOf i = s.read s.pc := by
  obtain ⟨rest, hdec⟩ := fetchInstr_eq_some.1 h
  obtain ⟨hbytes, -⟩ := encodeOfDecodeIsTheBytes _ _ _ _ hdec
  obtain ⟨op, operands, -, hop, -⟩ := exists_row_reads i
  rw [hop, List.cons_append] at hbytes
  obtain ⟨rfl, -⟩ := List.cons.inj hbytes
  rw [opcodeOf, hop, List.headD_cons]

/-- Settles O8: the fetch is the one source of a fault, and the decimal gate behind ADC and SBC that of a refusal. -/
theorem stepStopsOnlyAsListed : Obligations.StepStopsOnlyAsListed := by
  refine fun s => ⟨fun f h => ?_, fun r h => ?_⟩
  · obtain ⟨hf, rfl⟩ := step_fault h
    exact ⟨rfl, fetchInstr_eq_none.1 hf⟩
  · obtain ⟨i, hf, hi⟩ := step_refused h
    obtain ⟨hgate, rfl⟩ := exec_refused.1 hi
    obtain ⟨hm, hd, hr⟩ := closed_of_handled_eq_unmodelledDecimal hgate
    exact ⟨by rw [opcodeOf_of_fetchInstr hf], profile_eq_full_of_step_eq_refused h, hd, hr, i, hf, hm⟩

end Sys2Proof.Machine
end

section
/-!
Launch, `init` and reset (70_reset_and_hazards.md R189, R190): the memory of an image reads as the image, and PC comes
from the reset vector.
-/

namespace Sys2Proof.Machine

/-- Settles O11: the two bytes of the word at the reset vector are those at 0xFFFC and 0xFFFD. -/
theorem initReadsTheResetVector : Obligations.InitReadsTheResetVector := fun _ => rfl

/-- Byte `k` of an image laid out from `a` on is read at `a + k`, below the top of memory. -/
theorem lookup_imageFrom {a k : Nat} {v : Byte} {image : List Byte} (hv : image[k]? = some v) (hk : a + k < memSize) :
    lookup (imageFrom a image) (a + k) = v := by
  induction image generalizing a k with
  | nil => cases hv
  | cons w image ih =>
    have ha : a < memSize := (Nat.le_add_right a k).trans_lt hk
    rw [imageFrom, if_pos ha, lookup_cell_append (imageFrom_wf (a + 1) image)]
    cases k with
    | zero =>
      rw [if_pos (Nat.add_zero a)]
      exact Option.some.inj hv
    | succ k =>
      have hnext : a + (k + 1) = a + 1 + k := by omega
      rw [if_neg (by omega), if_neg (by omega), hnext]
      exact ih hv (hnext ▸ hk)

/-- A loaded memory reads at every 16-bit address as the image, where the image has a byte for it (R189). -/
theorem Memory.read_ofImage {image : List Byte} {k : Word} {v : Byte} (hv : image[k.toNat]? = some v) :
    (Memory.ofImage image).read k.toNat = v := by
  have hk : 0 + k.toNat < memSize := (Nat.zero_add _).symm ▸ word_lt_memSize k
  have hread := lookup_imageFrom hv hk
  rwa [Nat.zero_add, ← word_mod_memSize] at hread

/-- Settles O12: an image of 65536 bytes has a byte for every address, and the launch ends with `init`. -/
theorem launchHoldsEveryInput : Obligations.LaunchHoldsEveryInput := by
  intro l hl s
  refine ⟨rfl, rfl, rfl, rfl, rfl, rfl, fun k => ?_, rfl⟩
  have hk : l.image[k.toNat]? = some l.image[k.toNat] := List.getElem?_eq_getElem (hl ▸ k.isLt)
  have hread : s.read k = l.image[k.toNat] := Memory.read_ofImage hk
  rw [hk, hread]

/-- Settles O13: no cell is listed at reset, so every byte reads as unlisted, the reset vector's two among them. -/
theorem resetTakesTheModelsChoices : Obligations.ResetTakesTheModelsChoices :=
  ⟨rfl, rfl, rfl, rfl, rfl, rfl, rfl, fun _ => rfl⟩

end Sys2Proof.Machine
end
